-- ==== Sys2Proof/Word.lean ====
section
/-! DEFINITION. The word types of the block: bytes, 16-bit halves, 32-bit register words and the
64-bit millisecond time (spec/00_scope.md R8, R9). -/

namespace Sys2Proof

/-- A byte: 8 bits, a value in 0..255 (R8). -/
abbrev Byte := BitVec 8

/-- A 16-bit value: the CRC-16 register, the retry budget and count. -/
abbrev Half := BitVec 16

/-- A register word or command word: 32 bits (R22, R110). -/
abbrev Word := BitVec 32

/-- The time input `now` and the deadline: 64 bits, milliseconds (R9, R47). -/
abbrev Time := BitVec 64

end Sys2Proof
end

