-- ==== Sys2Proof/Syntax.lean ====
section
/-! DEFINITION. The 43 commands of the block, one constructor per row of spec/opcode_table.json
(spec/30_encoding.md R113), in the table's order. A format-B operand is a byte; the format-H operand is an
unsigned count (R111, R117), a Nat that WellFormed bounds. -/

namespace Sys2Proof

/-- A command the host may write to `CMD`. -/
inductive Instr where
  /-- `NOP` (R131). -/
  | nop
  /-- `SRST` (R132). -/
  | srst
  /-- `IB.PUSH b` (R133). -/
  | ibPush (b : Byte)
  /-- `IB.CLR` (R134). -/
  | ibClr
  /-- `IB.DROP n` (R135). -/
  | ibDrop (n : Nat)
  /-- `IB.HUNT` (R136). -/
  | ibHunt
  /-- `OB.PUSH b` (R141). -/
  | obPush (b : Byte)
  /-- `OB.POP` (R142). -/
  | obPop
  /-- `OB.CLR` (R143). -/
  | obClr
  /-- `TP.PUSH b` (R137). -/
  | tpPush (b : Byte)
  /-- `TP.CLR` (R138). -/
  | tpClr
  /-- `RP.POP` (R139). -/
  | rpPop
  /-- `RP.CLR` (R140). -/
  | rpClr
  /-- `CK8.INIT` (R160). -/
  | ck8Init
  /-- `CK8.UPD b` (R161). -/
  | ck8Upd (b : Byte)
  /-- `CK8.BUF` (R162). -/
  | ck8Buf
  /-- `C16.INIT` (R163). -/
  | c16Init
  /-- `C16.UPD b` (R164). -/
  | c16Upd (b : Byte)
  /-- `C16.BUF` (R165). -/
  | c16Buf
  /-- `C32.INIT` (R166). -/
  | c32Init
  /-- `C32.UPD b` (R167). -/
  | c32Upd (b : Byte)
  /-- `C32.BUF` (R168). -/
  | c32Buf
  /-- `ZE.RST` (R174). -/
  | zeRst
  /-- `ZE.PUT b` (R175). -/
  | zePut (b : Byte)
  /-- `ZE.BUF` (R176). -/
  | zeBuf
  /-- `ZD.RST` (R178). -/
  | zdRst
  /-- `ZD.PUT b` (R179). -/
  | zdPut (b : Byte)
  /-- `ZD.END` (R180). -/
  | zdEnd
  /-- `ZD.BUF` (R181). -/
  | zdBuf
  /-- `FS.XBLK` (R194). -/
  | fsXblk
  /-- `FS.YB0` (R199). -/
  | fsYb0
  /-- `FS.YEOB` (R200). -/
  | fsYeob
  /-- `FS.ZHDR` (R209). -/
  | fsZhdr
  /-- `FS.ZDAT` (R210). -/
  | fsZdat
  /-- `FP.XBLK` (R222). -/
  | fpXblk
  /-- `FP.YB0` (R224). -/
  | fpYb0
  /-- `FP.ZHDR` (R232). -/
  | fpZhdr
  /-- `FP.ZDAT` (R233). -/
  | fpZdat
  /-- `RT.RST` (R251). -/
  | rtRst
  /-- `RT.ARM` (R252). -/
  | rtArm
  /-- `RT.OK` (R253). -/
  | rtOk
  /-- `RT.FAIL` (R254). -/
  | rtFail
  /-- `RT.POLL` (R255). -/
  | rtPoll
  deriving DecidableEq, Repr

end Sys2Proof
end

