-- ==== Sys2Proof/WellFormed.lean ====
section
/-! DEFINITION. Which commands can be written as a command word: the one operand that the type does not
already bound is the format-H count, "`IMM16` is used as an unsigned number, 0 to 65535"
(spec/30_encoding.md R117). -/

namespace Sys2Proof

/-- The command's operand fits its field. -/
def Instr.wellFormed : Instr → Bool
  | .ibDrop n => decide (n < 65536)
  | .nop | .srst | .ibPush _ | .ibClr | .ibHunt | .obPush _ | .obPop | .obClr | .tpPush _ | .tpClr
  | .rpPop | .rpClr | .ck8Init | .ck8Upd _ | .ck8Buf | .c16Init | .c16Upd _ | .c16Buf | .c32Init
  | .c32Upd _ | .c32Buf | .zeRst | .zePut _ | .zeBuf | .zdRst | .zdPut _ | .zdEnd | .zdBuf | .fsXblk
  | .fsYb0 | .fsYeob | .fsZhdr | .fsZdat | .fpXblk | .fpYb0 | .fpZhdr | .fpZdat | .rtRst | .rtArm
  | .rtOk | .rtFail | .rtPoll => true

end Sys2Proof
end

