-- ==== Sys2Proof/Decode.lean ====
section
/-! DEFINITION. The decoder of command words, total on any 32-bit word and rejecting by name
(spec/30_encoding.md R110 to R117), and after it the encoder, written from the same tables. A command word
is one 32-bit bus word and has no byte order (spec/20_memory.md R87). -/

namespace Sys2Proof

/-- Why a word is no command (R112, R114). -/
inductive IllegalWord where
  /-- `OP` is not one of the 43 opcodes of R113. -/
  | unassignedOpcode
  /-- `OP` is assigned, and a bit of a `zero` field of its format is 1. -/
  | nonzeroZeroField
  deriving DecidableEq, Repr

/-- The opcode field `OP`, bits 31:24 (R110). -/
def opField (w : Word) : Byte := w.extractLsb' 24 8

/-- `IMM8 = w[7:0]`, used as an unsigned byte (R112, R117). -/
def imm8 (w : Word) : Byte := w.extractLsb' 0 8

/-- `IMM16 = w[15:0]`, used as an unsigned number (R112, R117). -/
def imm16 (w : Word) : Nat := (w.extractLsb' 0 16).toNat

/-- Format N: bits 23:0 are zero (R111). -/
def formatN (w : Word) (i : Instr) : Except IllegalWord Instr :=
  if w.extractLsb' 0 24 = 0 then .ok i else .error .nonzeroZeroField

/-- Format B: bits 23:8 are zero, `IMM8` in bits 7:0 (R111). -/
def formatB (w : Word) (f : Byte → Instr) : Except IllegalWord Instr :=
  if w.extractLsb' 8 16 = 0 then .ok (f (imm8 w)) else .error .nonzeroZeroField

/-- Format H: bits 23:16 are zero, `IMM16` in bits 15:0 (R111). -/
def formatH (w : Word) (f : Nat → Instr) : Except IllegalWord Instr :=
  if w.extractLsb' 16 8 = 0 then .ok (f (imm16 w)) else .error .nonzeroZeroField

/-- The command a word encodes: the opcode map of R113 with the format check of R112. -/
def decode (w : Word) : Except IllegalWord Instr :=
  match (opField w).toNat with
  | 0x00 => formatN w .nop
  | 0x01 => formatN w .srst
  | 0x02 => formatB w .ibPush
  | 0x03 => formatN w .ibClr
  | 0x04 => formatH w .ibDrop
  | 0x05 => formatN w .ibHunt
  | 0x06 => formatB w .obPush
  | 0x07 => formatN w .obPop
  | 0x08 => formatN w .obClr
  | 0x09 => formatB w .tpPush
  | 0x0A => formatN w .tpClr
  | 0x0B => formatN w .rpPop
  | 0x0C => formatN w .rpClr
  | 0x10 => formatN w .ck8Init
  | 0x11 => formatB w .ck8Upd
  | 0x12 => formatN w .ck8Buf
  | 0x13 => formatN w .c16Init
  | 0x14 => formatB w .c16Upd
  | 0x15 => formatN w .c16Buf
  | 0x16 => formatN w .c32Init
  | 0x17 => formatB w .c32Upd
  | 0x18 => formatN w .c32Buf
  | 0x20 => formatN w .zeRst
  | 0x21 => formatB w .zePut
  | 0x22 => formatN w .zeBuf
  | 0x24 => formatN w .zdRst
  | 0x25 => formatB w .zdPut
  | 0x26 => formatN w .zdEnd
  | 0x27 => formatN w .zdBuf
  | 0x30 => formatN w .fsXblk
  | 0x31 => formatN w .fsYb0
  | 0x32 => formatN w .fsYeob
  | 0x33 => formatN w .fsZhdr
  | 0x34 => formatN w .fsZdat
  | 0x40 => formatN w .fpXblk
  | 0x41 => formatN w .fpYb0
  | 0x42 => formatN w .fpZhdr
  | 0x43 => formatN w .fpZdat
  | 0x50 => formatN w .rtRst
  | 0x51 => formatN w .rtArm
  | 0x52 => formatN w .rtOk
  | 0x53 => formatN w .rtFail
  | 0x54 => formatN w .rtPoll
  | _ => .error .unassignedOpcode

/-- The command the host's numbering of a table word stands for: `nbits` bits of `w`, every bit above them 0.
A command word is one bus word, so bit k of `w` is bit k of the command word (R87). -/
def decodeTableWord (nbits w : Nat) : Option Instr :=
  match decode (BitVec.ofNat 32 (w % 2 ^ nbits)) with
  | .ok i => some i
  | .error _ => none

/-- The opcode of a command (R113). -/
def opcode : Instr → Byte
  | .nop => 0x00
  | .srst => 0x01
  | .ibPush _ => 0x02
  | .ibClr => 0x03
  | .ibDrop _ => 0x04
  | .ibHunt => 0x05
  | .obPush _ => 0x06
  | .obPop => 0x07
  | .obClr => 0x08
  | .tpPush _ => 0x09
  | .tpClr => 0x0A
  | .rpPop => 0x0B
  | .rpClr => 0x0C
  | .ck8Init => 0x10
  | .ck8Upd _ => 0x11
  | .ck8Buf => 0x12
  | .c16Init => 0x13
  | .c16Upd _ => 0x14
  | .c16Buf => 0x15
  | .c32Init => 0x16
  | .c32Upd _ => 0x17
  | .c32Buf => 0x18
  | .zeRst => 0x20
  | .zePut _ => 0x21
  | .zeBuf => 0x22
  | .zdRst => 0x24
  | .zdPut _ => 0x25
  | .zdEnd => 0x26
  | .zdBuf => 0x27
  | .fsXblk => 0x30
  | .fsYb0 => 0x31
  | .fsYeob => 0x32
  | .fsZhdr => 0x33
  | .fsZdat => 0x34
  | .fpXblk => 0x40
  | .fpYb0 => 0x41
  | .fpZhdr => 0x42
  | .fpZdat => 0x43
  | .rtRst => 0x50
  | .rtArm => 0x51
  | .rtOk => 0x52
  | .rtFail => 0x53
  | .rtPoll => 0x54

/-- Bits 23:0 of a format-B word (R111). -/
def byteField (b : Byte) : BitVec 24 := (0 : BitVec 16) ++ b

/-- Bits 23:0 of a format-H word (R111). -/
def countField (n : Nat) : BitVec 24 := (0 : BitVec 8) ++ BitVec.ofNat 16 n

/-- Bits 23:0 of a command's word (R111). -/
def operandField : Instr → BitVec 24
  | .ibPush b => byteField b
  | .ibDrop n => countField n
  | .obPush b => byteField b
  | .tpPush b => byteField b
  | .ck8Upd b => byteField b
  | .c16Upd b => byteField b
  | .c32Upd b => byteField b
  | .zePut b => byteField b
  | .zdPut b => byteField b
  | .nop | .srst | .ibClr | .ibHunt | .obPop | .obClr | .tpClr | .rpPop | .rpClr | .ck8Init | .ck8Buf | .c16Init | .c16Buf | .c32Init | .c32Buf | .zeRst | .zeBuf | .zdRst | .zdEnd | .zdBuf | .fsXblk | .fsYb0 | .fsYeob | .fsZhdr | .fsZdat | .fpXblk | .fpYb0 | .fpZhdr | .fpZdat | .rtRst | .rtArm | .rtOk | .rtFail | .rtPoll => 0

/-- The command word of a command: `OP` above its operand field (R110, R111). -/
def encode (i : Instr) : Word := opcode i ++ operandField i

end Sys2Proof
end

