-- ==== Sys2Proof/Config.lean ====
section
/-! DEFINITION. The implementation parameters of spec/00_scope.md R7: every value the spec fixes for this
hardware, and `BASE`, which it leaves OPEN, as an opaque constant. The spec leaves no other value free
(spec/93_implementation_defined.md, end of Part 1), so there is no other free value here. -/

namespace Sys2Proof.Config

/-- `XBLK_SMALL`: payload bytes of an Xmodem block of variant `Checksum` or `Crc` (R7, R192). -/
def xblkSmall : Nat := 128

/-- `XBLK_LARGE`: payload bytes of an Xmodem block of variant `OneK` (R7, R192). -/
def xblkLarge : Nat := 1024

/-- `MAX_RETRIES_DEFAULT` (R7, R44). -/
def maxRetriesDefault : Half := 10

/-- `TIMEOUT_MS_DEFAULT` (R7, R45). -/
def timeoutMsDefault : Word := 10000

/-- `CRC16_POLY` (R7, R153). -/
def crc16Poly : Half := 0x1021

/-- `CRC16_INIT` (R7, R153). -/
def crc16Init : Half := 0x0000

/-- `CRC32_POLY_REFLECTED` (R7, R157). -/
def crc32Poly : Word := 0xEDB88320

/-- `CRC32_INIT` (R7, R157). -/
def crc32Init : Word := 0xFFFFFFFF

/-- `CRC32_XOROUT` (R7, R157). -/
def crc32Xorout : Word := 0xFFFFFFFF

/-- `ESC_XOR` (R7, R173). -/
def escXor : Byte := 0x40

/-- `ZDLE`, the escape introducer (R7, R13). -/
def zdle : Byte := 0x18

/-- `ZPAD`, the pad byte in front of a Zmodem header (R7, R202). -/
def zpad : Byte := 0x2A

/-- `PAD_BYTE`, which fills a short Xmodem payload (R7, R193). -/
def padByte : Byte := 0x1A

/-- `SOH`, the header byte of a 128-byte block (R193). -/
def soh : Byte := 0x01

/-- `STX`, the header byte of a 1024-byte block (R193). -/
def stx : Byte := 0x02

/-- The letter that announces a binary header with CRC-16, `A` (R202). -/
def zbin : Byte := 0x41

/-- The letter that announces a hex header, `B` (R202). -/
def zhexLetter : Byte := 0x42

/-- The letter that announces a binary header with CRC-32, `C` (R202). -/
def zbin32Letter : Byte := 0x43

/-- The carriage return that ends a hex header (R204). -/
def hexCr : Byte := 0x0D

/-- `HEX_LF`, the line feed that ends a hex header (R7, R204). -/
def hexLf : Byte := 0x0A

/-- XON, sent after a hex header of most types (R14, R204). -/
def xon : Byte := 0x11

/-- The highest assigned Zmodem frame type (R203). -/
def maxFrameType : Nat := 19

/-- The marker byte of `ZEND` 0; the marker of `ZEND` k is this plus k (R207). -/
def markerBase : Byte := 0x68

/-- `TXP_CAP` (R7, R62). -/
def txpCap : Nat := 1024

/-- `RXP_CAP` (R7, R63). -/
def rxpCap : Nat := 1024

/-- `IBUF_CAP` (R7, R60). -/
def ibufCap : Nat := 4096

/-- `OBUF_CAP` (R7, R61). -/
def obufCap : Nat := 4096

/-- Which 256-byte slot of the platform's bus the register window stands in. OPEN (R7, R90, U6): a constant
with no body, so nothing can be proved of its value. -/
opaque baseIndex : Nat

/-- `BASE`, the bus address of register offset 0, "must be a multiple of 256" (R90). -/
def base : Nat := 256 * baseIndex

/-- Bytes in the register window (R80, R90). -/
def windowSize : Nat := 256

end Sys2Proof.Config
end

