-- ==== Sys2Proof/Machine/State.lean ====
section
/-! DEFINITION. The state of the block as plain data: every register of spec/10_state.md R22 (a register of
several fields is a structure of its fields; reserved bits are not stored, R23) and the four buffers of R60
to R63, with the reset values of R22 and R65; beside them the model's own three fields for the host's side of
the bus. `CMD`, `CRC32_OUT`, `BUFLEN0` and `BUFLEN1` store nothing (R24, R33, R42). -/

namespace Sys2Proof.Machine

/-- The fifteen outcomes of a command (spec/60_exceptions.md R270). -/
inductive ResultCode where
  /-- 0x00: the command did what its rule says. -/
  | ok
  /-- 0x01: the 8-bit sum of a parsed block differs. -/
  | checksumMismatch
  /-- 0x02: a CRC of a parsed unit differs. -/
  | crcMismatch
  /-- 0x03: the complement byte of a parsed block is wrong. -/
  | complementMismatch
  /-- 0x04: the first byte of a parsed block is not its marker, or a sound block 0 has another number. -/
  | invalidBlockHeader
  /-- 0x05: a frame type above 19. -/
  | invalidFrameType
  /-- 0x06: no header start, unknown letter or a non-hex digit. -/
  | invalidFrameEncoding
  /-- 0x07: an introducer followed by a byte outside the valid escape set or by the end of the stream. -/
  | invalidEscape
  /-- 0x08: the retry budget is exhausted. -/
  | maxRetriesExceeded
  /-- 0x09: the deadline passed and budget remains. -/
  | timeout
  /-- 0x10: the bytes present are a proper prefix of a possibly valid unit. -/
  | incomplete
  /-- 0x11: a payload or text too long for its unit. -/
  | overrun
  /-- 0x12: a buffer would exceed its capacity. -/
  | bufferFull
  /-- 0x13: a pop of an empty buffer. -/
  | bufferEmpty
  /-- 0x14: the command word does not decode, or a bad block-0 name. -/
  | illegalCommand
  deriving DecidableEq, Repr

/-- `CFG.XVAR`, the Xmodem Protocol Variant (R28); 3 is reserved and cannot be stored. -/
inductive XVariant where
  /-- 0: 128-byte payload, 1-byte sum. -/
  | checksum
  /-- 1: 128-byte payload, CRC-16. -/
  | crc
  /-- 2: 1024-byte payload, CRC-16. -/
  | oneK
  deriving DecidableEq, Repr

/-- The encoding of a Zmodem header, `TX_DESC.ZENC` and `RX_DESC.ZENC` (R35, R38); 3 is reserved and cannot be
stored. -/
inductive ZEncoding where
  /-- 0: hex digits with CRC-16. -/
  | hex
  /-- 1: binary with CRC-16. -/
  | bin16
  /-- 2: binary with CRC-32. -/
  | bin32
  deriving DecidableEq, Repr

/-- `CFG` (R28). -/
structure Cfg where
  /-- Bits 1:0. -/
  xvar : XVariant
  /-- Bit 4: Zmodem data-subpacket CRC width, 1 for CRC-32. -/
  zcrcw : Bool
  /-- Bit 8: the CR context rule of the escape encoder is on. -/
  crctx : Bool
  deriving DecidableEq, Repr

/-- `ZSTATE` (R34). -/
structure ZState where
  /-- Bits 7:0: the last byte appended to `OBUF`. -/
  zeLast : Byte
  /-- Bit 8: the streaming decoder waits for the byte after an introducer. -/
  zdPend : Bool
  deriving DecidableEq, Repr

/-- `TX_DESC` (R35). -/
structure TxDesc where
  /-- Bits 7:0: Xmodem block number. -/
  blk : Byte
  /-- Bits 12:8: Zmodem frame type, 0 to 31 storable. -/
  ztype : BitVec 5
  /-- Bits 17:16. -/
  zenc : ZEncoding
  /-- Bits 21:20: end-of-subpacket marker selector. -/
  zend : BitVec 2
  deriving DecidableEq, Repr

/-- `RX_DESC` (R38). -/
structure RxDesc where
  /-- Bits 7:0. -/
  blk : Byte
  /-- Bits 12:8. -/
  ztype : BitVec 5
  /-- Bits 17:16. -/
  zenc : ZEncoding
  /-- Bits 21:20. -/
  zend : BitVec 2
  /-- Bit 24: the parsed block 0 is the end-of-batch block. -/
  yeob : Bool
  /-- Bit 25. -/
  ysizeP : Bool
  /-- Bit 26. -/
  ymtimeP : Bool
  /-- Bit 27. -/
  ymodeP : Bool
  /-- Bit 28: a present number did not fit in 32 bits. -/
  yovf : Bool
  deriving DecidableEq, Repr

/-- `RT_STAT` (R46). -/
structure RtStat where
  /-- Bits 15:0: the retry count. -/
  cnt : Half
  /-- Bit 16: a deadline is captured and not yet consumed. -/
  armed : Bool
  /-- Bit 17: the budget is exhausted. -/
  exh : Bool
  deriving DecidableEq, Repr

/-- What the outside does to the block (spec/00_scope.md R5, spec/20_memory.md R81 to R83,
spec/70_reset_and_hazards.md R300). `off` is the byte offset from `BASE`, `bytes` the width of the access. -/
inductive HostEvent where
  /-- A bus read. -/
  | read (off bytes : Nat)
  /-- A bus write of `value`; at offset 0 it issues a command. -/
  | write (off bytes : Nat) (value : Word)
  /-- The platform applies the block's reset. -/
  | reset
  deriving DecidableEq, Repr

/-- A host event with the value the time input `now` has at its instant (R9, R250). -/
structure HostAction where
  /-- The sampled time input. -/
  time : Time
  /-- What happens. -/
  event : HostEvent
  deriving DecidableEq, Repr

/-- Why the machine could stop with a fault: never. The spec names no machine stop; every outcome of a command,
faults of R270 included, is a next state with `RESULT` written (R273), so this type has no constructor. -/
inductive Fault
  deriving DecidableEq, Repr

/-- Why a step has no meaning. -/
inductive Refusal where
  /-- Raised by exec's arm of a command that has no meaning yet (none is left). Safe: nothing can be proved
  through it. -/
  | notModelled (mnemonic : String)
  /-- Raised by the bus for an access that is not an aligned 32-bit access inside the window, which "is not
  performed by the block" (R83, U1). Safe: "refused, which errs toward unprovable". -/
  | unacceptedAccess
  deriving DecidableEq, Repr

/-- The whole machine (R20, R22, R60 to R63), and after the buffers the model's own fields. -/
structure State where
  /-- `RESULT.CODE` (R25). -/
  result : ResultCode
  /-- `ERRFLAGS` (R26). -/
  errflags : Word
  /-- `ERRINFO` (R27). -/
  errinfo : Word
  /-- `CFG` (R28). -/
  cfg : Cfg
  /-- `ESCMAP_LO` (R29). -/
  escmapLo : Word
  /-- `ESCMAP_HI` (R29). -/
  escmapHi : Word
  /-- `CK8.SUM` (R30). -/
  ck8 : Byte
  /-- `CRC16.CRC` (R31). -/
  crc16 : Half
  /-- `CRC32_RAW` (R32). -/
  crc32Raw : Word
  /-- `ZSTATE` (R34). -/
  zstate : ZState
  /-- `TX_DESC` (R35). -/
  txDesc : TxDesc
  /-- `TX_ZHDR` (R36). -/
  txZhdr : Word
  /-- `TX_YSIZE` (R37). -/
  txYsize : Word
  /-- `TX_YMTIME` (R37). -/
  txYmtime : Word
  /-- `TX_YMODE` (R37). -/
  txYmode : Word
  /-- `RX_DESC` (R38). -/
  rxDesc : RxDesc
  /-- `RX_ZHDR` (R39). -/
  rxZhdr : Word
  /-- `RX_YSIZE` (R40). -/
  rxYsize : Word
  /-- `RX_YMTIME` (R40). -/
  rxYmtime : Word
  /-- `RX_YMODE` (R40). -/
  rxYmode : Word
  /-- `RX_YNLEN.NLEN` (R40). -/
  rxYnlen : Byte
  /-- `RX_CRC_CALC` (R41). -/
  rxCrcCalc : Word
  /-- `RX_CRC_RCVD` (R41). -/
  rxCrcRcvd : Word
  /-- `ODATA` (R43). -/
  odata : Byte
  /-- `RDATA` (R43). -/
  rdata : Byte
  /-- `RT_CFG.MAX` (R44). -/
  rtMax : Half
  /-- `RT_TMO` (R45). -/
  rtTmo : Word
  /-- `RT_STAT` (R46). -/
  rtStat : RtStat
  /-- `RT_DL`, the pair `RT_DL_HI`, `RT_DL_LO` (R47). -/
  rtDl : Time
  /-- `IBUF`, front first (R60). -/
  ibuf : List Byte
  /-- `OBUF`, front first (R61). -/
  obuf : List Byte
  /-- `TXP`, front first (R62). -/
  txp : List Byte
  /-- `RXP`, front first (R63). -/
  rxp : List Byte
  /-- MODEL: the time input at the instant the current action executes (R9; log entry 2). -/
  now : Time
  /-- MODEL: the host's actions not yet performed, oldest first (R5, R92; log entry 1). -/
  pending : List HostAction
  /-- MODEL: the word the last register read returned to the host (R81; log entry 3). -/
  readData : Word
  deriving DecidableEq, Repr

/-- The machine right after reset: the values of R22 and R65, empty buffers, and nothing pending. -/
def State.reset : State where
  result := .ok
  errflags := 0x00000000
  errinfo := 0x00000000
  cfg := { xvar := .checksum, zcrcw := false, crctx := true }
  escmapLo := 0x010A0000
  escmapHi := 0x000A0000
  ck8 := 0x00
  crc16 := Config.crc16Init
  crc32Raw := Config.crc32Init
  zstate := { zeLast := 0x00, zdPend := false }
  txDesc := { blk := 0, ztype := 0, zenc := .hex, zend := 0 }
  txZhdr := 0x00000000
  txYsize := 0x00000000
  txYmtime := 0x00000000
  txYmode := 0x00000000
  rxDesc := { blk := 0, ztype := 0, zenc := .hex, zend := 0, yeob := false, ysizeP := false,
              ymtimeP := false, ymodeP := false, yovf := false }
  rxZhdr := 0x00000000
  rxYsize := 0x00000000
  rxYmtime := 0x00000000
  rxYmode := 0x00000000
  rxYnlen := 0x00
  rxCrcCalc := 0x00000000
  rxCrcRcvd := 0x00000000
  odata := 0x00
  rdata := 0x00
  rtMax := Config.maxRetriesDefault
  rtTmo := Config.timeoutMsDefault
  rtStat := { cnt := 0, armed := false, exh := false }
  rtDl := 0
  ibuf := []
  obuf := []
  txp := []
  rxp := []
  now := 0
  pending := []
  readData := 0x00000000

end Sys2Proof.Machine
end

