-- ==== Sys2Proof/Machine/Flags.lean ====
section
/-! DEFINITION. The flags of the block (spec/10_state.md R64): the numbers and classes of the result codes, the
sticky `ERRFLAGS` bits, and the computation of `RT_STAT`'s flags in a counted failure. The five `RX_DESC`
flags are computed where block 0 is parsed (Parser.lean), `ZD_PEND` where the decoder steps (Escape.lean). -/

namespace Sys2Proof.Machine

/-- The number of a result code, `RESULT.CODE` (spec/60_exceptions.md R270). -/
def codeNumber : ResultCode → Byte
  | .ok => 0x00
  | .checksumMismatch => 0x01
  | .crcMismatch => 0x02
  | .complementMismatch => 0x03
  | .invalidBlockHeader => 0x04
  | .invalidFrameType => 0x05
  | .invalidFrameEncoding => 0x06
  | .invalidEscape => 0x07
  | .maxRetriesExceeded => 0x08
  | .timeout => 0x09
  | .incomplete => 0x10
  | .overrun => 0x11
  | .bufferFull => 0x12
  | .bufferEmpty => 0x13
  | .illegalCommand => 0x14

/-- The code is of class `fault`: the command did nothing but report (R270, R274). `Ok` has no class;
`MaxRetriesExceeded` and `Timeout` are of class `result`. -/
def codeIsFault : ResultCode → Bool
  | .ok | .maxRetriesExceeded | .timeout => false
  | .checksumMismatch | .crcMismatch | .complementMismatch | .invalidBlockHeader | .invalidFrameType
  | .invalidFrameEncoding | .invalidEscape | .incomplete | .overrun | .bufferFull | .bufferEmpty
  | .illegalCommand => true

/-- The `ERRFLAGS` word with only the bit of a code set (R26). -/
def codeFlag (c : ResultCode) : Word := 1 <<< (codeNumber c).toNat

/-- The bits of `ERRFLAGS` whose number is an assigned code other than 0; the others are reserved (R26, R270). -/
def errflagsAssigned : Word := 0x001F03FE

/-- `ERRFLAGS[c] <- 1` for a code other than `Ok`; a command never clears a bit (R26, R273). -/
def flagsAfter (c : ResultCode) (flags : Word) : Word :=
  if c = .ok then flags else flags ||| codeFlag c

/-- The write-1-to-clear of `ERRFLAGS` (R22, R26, R82). -/
def flagsCleared (v flags : Word) : Word := flags &&& ~~~v

/-- `bump`, the shared step of a counted failure, on `RT_STAT` with the budget `max`
(spec/45_retry_timeout.md R256): the count goes up, the deadline is consumed, and `EXH` is set when the new
count reaches the budget. -/
def bump (max : Half) (r : RtStat) : RtStat :=
  { cnt := r.cnt + 1, armed := false, exh := r.exh || decide (max ≤ r.cnt + 1) }

end Sys2Proof.Machine
end

