-- ==== Sys2Proof/Machine/Operands.lean ====
section
/-! DEFINITION. The operands of the commands other than the immediates (which Decode.lean reads): the register
fields as bits, the byte orders of multi-byte values on the wire (spec/20_memory.md R88), and the register
window's reads and writes as the bus sees them (R81, R82; spec/10_state.md R22 to R47). -/

namespace Sys2Proof.Machine

/-- The most significant byte of a 16-bit value, `c[15:8]`. -/
def hiByte (c : Half) : Byte := c.extractLsb' 8 8

/-- The least significant byte of a 16-bit value, `c[7:0]`. -/
def loByte (c : Half) : Byte := c.extractLsb' 0 8

/-- A CRC-16 on the wire: most significant byte first (R88). -/
def crc16Bytes (c : Half) : List Byte := [hiByte c, loByte c]

/-- The four bytes of a word, least significant first: a CRC-32 on the wire, and the header bytes `HB0..HB3` of
`TX_ZHDR` (R88, R36). -/
def wordBytes (v : Word) : List Byte :=
  [v.extractLsb' 0 8, v.extractLsb' 8 8, v.extractLsb' 16 8, v.extractLsb' 24 8]

/-- `{hi, lo}` as a 16-bit value (R8). -/
def halfOf (hi lo : Byte) : Half := hi ++ lo

/-- `{b3, b2, b1, b0}` as a word (R8). -/
def wordOf (b3 b2 b1 b0 : Byte) : Word := b3 ++ b2 ++ b1 ++ b0

/-- The byte at index `i`; used only where the length has been checked. -/
def byteAt (w : List Byte) (i : Nat) : Byte := w.getD i 0

/-- `XVAR` as stored bits (R28). -/
def xvarBits : XVariant → BitVec 2
  | .checksum => 0
  | .crc => 1
  | .oneK => 2

/-- A write of `XVAR`: the reserved value 3 leaves the field unchanged (R23, R28). -/
def xvarWrite (v : BitVec 2) (old : XVariant) : XVariant :=
  if v = 0 then .checksum else if v = 1 then .crc else if v = 2 then .oneK else old

/-- `ZENC` as stored bits (R35). -/
def zencBits : ZEncoding → BitVec 2
  | .hex => 0
  | .bin16 => 1
  | .bin32 => 2

/-- A write of `ZENC`: the reserved value 3 leaves the field unchanged (R23, R35). -/
def zencWrite (v : BitVec 2) (old : ZEncoding) : ZEncoding :=
  if v = 0 then .hex else if v = 1 then .bin16 else if v = 2 then .bin32 else old

/-- Bit 24 of `ESCMAP_LO`, "hardwired to 1" (R29). -/
def escmapHardwired : Word := 0x01000000

/-- `ESCMAP_LO` as every reader sees it, the hardwired bit 1 (R29). -/
def escmapLoRead (s : State) : Word := s.escmapLo ||| escmapHardwired

/-- The 64-bit escape set `ESCMAP = {ESCMAP_HI, ESCMAP_LO}` (R29). -/
def escmap (s : State) : BitVec 64 := s.escmapHi ++ escmapLoRead s

/-- One bit of a register at bit position 0. -/
def bit (b : Bool) : BitVec 1 := BitVec.ofBool b

/-- `CFG` as a word (R28). -/
def cfgWord (c : Cfg) : Word :=
  (0 : BitVec 23) ++ bit c.crctx ++ (0 : BitVec 3) ++ bit c.zcrcw ++ (0 : BitVec 2) ++ xvarBits c.xvar

/-- A write of `CFG` (R28, R82). -/
def cfgWrite (v : Word) (old : Cfg) : Cfg :=
  { xvar := xvarWrite (v.extractLsb' 0 2) old.xvar
    zcrcw := v.getLsbD 4
    crctx := v.getLsbD 8 }

/-- `ZSTATE` as a word (R34). -/
def zstateWord (z : ZState) : Word := (0 : BitVec 23) ++ bit z.zdPend ++ z.zeLast

/-- `TX_DESC` as a word (R35). -/
def txDescWord (d : TxDesc) : Word :=
  (0 : BitVec 10) ++ d.zend ++ (0 : BitVec 2) ++ zencBits d.zenc ++ (0 : BitVec 3) ++ d.ztype ++ d.blk

/-- A write of `TX_DESC` (R35, R82). -/
def txDescWrite (v : Word) (old : TxDesc) : TxDesc :=
  { blk := v.extractLsb' 0 8
    ztype := v.extractLsb' 8 5
    zenc := zencWrite (v.extractLsb' 16 2) old.zenc
    zend := v.extractLsb' 20 2 }

/-- `RX_DESC` as a word (R38). -/
def rxDescWord (d : RxDesc) : Word :=
  (0 : BitVec 3) ++ bit d.yovf ++ bit d.ymodeP ++ bit d.ymtimeP ++ bit d.ysizeP ++ bit d.yeob
    ++ (0 : BitVec 2) ++ d.zend ++ (0 : BitVec 2) ++ zencBits d.zenc ++ (0 : BitVec 3) ++ d.ztype ++ d.blk

/-- `RT_STAT` as a word (R46). -/
def rtStatWord (r : RtStat) : Word := (0 : BitVec 14) ++ bit r.exh ++ bit r.armed ++ r.cnt

/-- Two buffer lengths as a word, `low` in bits 15:0 and `high` in bits 31:16 (R42). -/
def lengthsWord (low high : Nat) : Word := BitVec.ofNat 16 high ++ BitVec.ofNat 16 low

/-- `RegRead(off)`: the register at `off` assembled from its fields with reserved bits 0, the views computed
from the current state, 0 for `CMD` and the reserved offsets (R81, R22). -/
def regRead (off : Nat) (s : State) : Word :=
  match off with
  | 0x04 => (codeNumber s.result).setWidth 32
  | 0x08 => s.errflags &&& errflagsAssigned
  | 0x0C => s.errinfo
  | 0x10 => cfgWord s.cfg
  | 0x14 => escmapLoRead s
  | 0x18 => s.escmapHi
  | 0x1C => s.ck8.setWidth 32
  | 0x20 => s.crc16.setWidth 32
  | 0x24 => s.crc32Raw
  | 0x28 => s.crc32Raw ^^^ Config.crc32Xorout
  | 0x2C => zstateWord s.zstate
  | 0x30 => txDescWord s.txDesc
  | 0x34 => s.txZhdr
  | 0x38 => s.txYsize
  | 0x3C => s.txYmtime
  | 0x40 => s.txYmode
  | 0x44 => rxDescWord s.rxDesc
  | 0x48 => s.rxZhdr
  | 0x4C => s.rxYsize
  | 0x50 => s.rxYmtime
  | 0x54 => s.rxYmode
  | 0x58 => s.rxYnlen.setWidth 32
  | 0x5C => s.rxCrcCalc
  | 0x60 => s.rxCrcRcvd
  | 0x64 => lengthsWord s.ibuf.length s.obuf.length
  | 0x68 => lengthsWord s.txp.length s.rxp.length
  | 0x6C => s.odata.setWidth 32
  | 0x70 => s.rdata.setWidth 32
  | 0x74 => s.rtMax.setWidth 32
  | 0x78 => s.rtTmo
  | 0x7C => rtStatWord s.rtStat
  | 0x80 => s.rtDl.extractLsb' 0 32
  | 0x84 => s.rtDl.extractLsb' 32 32
  | _ => 0

/-- `RegWrite(off, v)` at an offset other than `CMD`: an `RW` register takes its fields' bits, `ERRFLAGS` is
write-1-to-clear, an `RO` register or a reserved offset changes nothing (R82, R23, R22). -/
def regWrite (off : Nat) (v : Word) (s : State) : State :=
  match off with
  | 0x08 => { s with errflags := flagsCleared v s.errflags }
  | 0x10 => { s with cfg := cfgWrite v s.cfg }
  | 0x14 => { s with escmapLo := v ||| escmapHardwired }
  | 0x18 => { s with escmapHi := v }
  | 0x1C => { s with ck8 := v.extractLsb' 0 8 }
  | 0x20 => { s with crc16 := v.extractLsb' 0 16 }
  | 0x24 => { s with crc32Raw := v }
  | 0x30 => { s with txDesc := txDescWrite v s.txDesc }
  | 0x34 => { s with txZhdr := v }
  | 0x38 => { s with txYsize := v }
  | 0x3C => { s with txYmtime := v }
  | 0x40 => { s with txYmode := v }
  | 0x74 => { s with rtMax := v.extractLsb' 0 16 }
  | 0x78 => { s with rtTmo := v }
  | _ => s

/-- An access the block accepts: aligned, 32 bits, inside the window (R83). -/
def accessAccepted (off bytes : Nat) : Bool :=
  decide (bytes = 4) && decide (off % 4 = 0) && decide (off < Config.windowSize)

/-- The offset a bus address has in the register window, if it is inside (R80, R90). -/
def windowOffset (addr : Nat) : Option Nat :=
  if Config.base ≤ addr ∧ addr < Config.base + Config.windowSize then some (addr - Config.base) else none

end Sys2Proof.Machine
end

