-- ==== Sys2Proof/Machine/Ops.lean ====
section
/-! DEFINITION. The shared operations every meaning is written over: how a command ends (the status update of
spec/60_exceptions.md R273, which "is the whole of trap entry"; there is nothing to return from, R277), the
block's reset (spec/70_reset_and_hazards.md R300, R302), emitting wire bytes (spec/40_system_buffers.md R144)
and recording check values (spec/10_state.md R41). -/

namespace Sys2Proof.Machine

/-- What a step answers. -/
abbrev Result := Host.Outcome State Fault Refusal

/-- The status update, the last step of every command, with `w` the command word and `c` the outcome code:
`RESULT.CODE <- c`, and for a code other than `Ok` its sticky flag and `ERRINFO <- w` (R273). -/
def statusUpdate (w : Word) (c : ResultCode) (s : State) : State :=
  { s with
    result := c
    errflags := flagsAfter c s.errflags
    errinfo := if c = .ok then s.errinfo else w }

/-- The command `i` ends with code `c` after its own effect has made the state `s` (R10, R273). A fault passes
the state before the command, so nothing else changes (R274). -/
def finish (i : Instr) (c : ResultCode) (s : State) : Result :=
  .next (statusUpdate (encode i) c s)

/-- A word that does not decode ends `IllegalCommand` and changes nothing else (R114). -/
def finishIllegal (w : Word) (s : State) : Result :=
  .next (statusUpdate w .illegalCommand s)

/-- The reset of the block (R300): every register at its reset value and every buffer empty. The host's side of
the bus is not the block's and stays. -/
def resetBlock (s : State) : State :=
  { State.reset with now := s.now, pending := s.pending, readData := s.readData }

/-- `emit(w)`: append to `OBUF`, and if `w` is not empty `ZE_LAST` becomes its last byte (R144). -/
def emit (w : List Byte) (s : State) : State :=
  { s with
    obuf := s.obuf ++ w
    zstate := { s.zstate with zeLast := w.getLastD s.zstate.zeLast } }

/-- The end of every command that emits: the space check, then `emit` (R144, R191). -/
def finishEmit (i : Instr) (w : List Byte) (s : State) : Result :=
  if s.obuf.length + w.length > Config.obufCap then finish i .bufferFull s
  else finish i .ok (emit w s)

/-- Both check-value registers are written together, before the comparison decides (R41). -/
def setCheckValues (computed received : Word) (s : State) : State :=
  { s with rxCrcCalc := computed, rxCrcRcvd := received }

end Sys2Proof.Machine
end

