-- ==== Sys2Proof/Machine/Buffers.lean ====
section
/-! DEFINITION. The buffer commands (spec/40_system_buffers.md R133 to R143): the block's loads and stores. -/

namespace Sys2Proof.Machine

/-- `IB.PUSH b` (R133). -/
def execIbPush (b : Byte) (s : State) : Result :=
  if s.ibuf.length = Config.ibufCap then finish (.ibPush b) .bufferFull s
  else finish (.ibPush b) .ok { s with ibuf := s.ibuf ++ [b] }

/-- `IB.CLR` (R134). -/
def execIbClr (s : State) : Result := finish .ibClr .ok { s with ibuf := [] }

/-- `IB.DROP n`: the first `min(n, len)` bytes go (R135). -/
def execIbDrop (n : Nat) (s : State) : Result :=
  finish (.ibDrop n) .ok { s with ibuf := s.ibuf.drop (min n s.ibuf.length) }

/-- `IB.HUNT`: every byte in front of the first 0x2A goes, all of them if there is none (R136). -/
def execIbHunt (s : State) : Result :=
  finish .ibHunt .ok { s with ibuf := s.ibuf.dropWhile (· != Config.zpad) }

/-- `OB.PUSH b`: the byte goes out unescaped and becomes the encoder's context (R141). -/
def execObPush (b : Byte) (s : State) : Result := finishEmit (.obPush b) [b] s

/-- `OB.POP` (R142). -/
def execObPop (s : State) : Result :=
  match s.obuf with
  | [] => finish .obPop .bufferEmpty s
  | b :: rest => finish .obPop .ok { s with odata := b, obuf := rest }

/-- `OB.CLR`: `ZE_LAST` keeps its value (R143). -/
def execObClr (s : State) : Result := finish .obClr .ok { s with obuf := [] }

/-- `TP.PUSH b` (R137). -/
def execTpPush (b : Byte) (s : State) : Result :=
  if s.txp.length = Config.txpCap then finish (.tpPush b) .bufferFull s
  else finish (.tpPush b) .ok { s with txp := s.txp ++ [b] }

/-- `TP.CLR` (R138). -/
def execTpClr (s : State) : Result := finish .tpClr .ok { s with txp := [] }

/-- `RP.POP` (R139). -/
def execRpPop (s : State) : Result :=
  match s.rxp with
  | [] => finish .rpPop .bufferEmpty s
  | b :: rest => finish .rpPop .ok { s with rdata := b, rxp := rest }

/-- `RP.CLR` (R140). -/
def execRpClr (s : State) : Result := finish .rpClr .ok { s with rxp := [] }

end Sys2Proof.Machine
end

