-- ==== Sys2Proof/Machine/Checksum.lean ====
section
/-! DEFINITION. The checksum engine (spec/41_checksum.md): the pure functions `ck8` (R151), `crc16` (R153) and
`crc32` (R157), which the serializer and the parser use too, and the nine commands that run them on `CK8`,
`CRC16` and `CRC32_RAW` (R160 to R168). None of the nine can fault (R150). -/

namespace Sys2Proof.Machine

/-- `ck8_step`: addition modulo 256 (R151). -/
def ck8Step (s b : Byte) : Byte := s + b

/-- `ck8(d, s)`: the bytes of `d` added to the start value modulo 256 (R151). -/
def ck8 (d : List Byte) (s : Byte) : Byte := d.foldl ck8Step s

/-- One of the eight shifts of `crc16_step`: most significant bit first (R153). -/
def crc16Shift (c : Half) : Half :=
  if c.getLsbD 15 then (c <<< 1) ^^^ Config.crc16Poly else c <<< 1

/-- `crc16_step`: the byte enters at the top (R153). -/
def crc16Step (c : Half) (b : Byte) : Half :=
  Nat.iterate crc16Shift 8 (c ^^^ (b.setWidth 16 <<< 8))

/-- `crc16(d, c0)` (R153). -/
def crc16 (d : List Byte) (c0 : Half) : Half := d.foldl crc16Step c0

/-- One of the eight shifts of `crc32_step`: least significant bit first (R157). -/
def crc32Shift (c : Word) : Word :=
  if c.getLsbD 0 then (c >>> 1) ^^^ Config.crc32Poly else c >>> 1

/-- `crc32_step`: the byte enters at the bottom (R157). -/
def crc32Step (c : Word) (b : Byte) : Word :=
  Nat.iterate crc32Shift 8 (c ^^^ b.setWidth 32)

/-- `crc32_raw(d, c0)`: the register before the final XOR (R157). -/
def crc32Raw (d : List Byte) (c0 : Word) : Word := d.foldl crc32Step c0

/-- `crc32(d)`, the final value (R157). -/
def crc32 (d : List Byte) : Word := crc32Raw d Config.crc32Init ^^^ Config.crc32Xorout

/-- `CK8.INIT` (R160). -/
def execCk8Init (s : State) : Result := finish .ck8Init .ok { s with ck8 := 0x00 }

/-- `CK8.UPD b` (R161). -/
def execCk8Upd (b : Byte) (s : State) : Result :=
  finish (.ck8Upd b) .ok { s with ck8 := ck8Step s.ck8 b }

/-- `CK8.BUF` (R162). -/
def execCk8Buf (s : State) : Result := finish .ck8Buf .ok { s with ck8 := ck8 s.txp s.ck8 }

/-- `C16.INIT` (R163). -/
def execC16Init (s : State) : Result := finish .c16Init .ok { s with crc16 := Config.crc16Init }

/-- `C16.UPD b` (R164). -/
def execC16Upd (b : Byte) (s : State) : Result :=
  finish (.c16Upd b) .ok { s with crc16 := crc16Step s.crc16 b }

/-- `C16.BUF` (R165). -/
def execC16Buf (s : State) : Result := finish .c16Buf .ok { s with crc16 := crc16 s.txp s.crc16 }

/-- `C32.INIT` (R166). -/
def execC32Init (s : State) : Result := finish .c32Init .ok { s with crc32Raw := Config.crc32Init }

/-- `C32.UPD b` (R167). -/
def execC32Upd (b : Byte) (s : State) : Result :=
  finish (.c32Upd b) .ok { s with crc32Raw := crc32Step s.crc32Raw b }

/-- `C32.BUF` (R168). -/
def execC32Buf (s : State) : Result :=
  finish .c32Buf .ok { s with crc32Raw := crc32Raw s.txp s.crc32Raw }

end Sys2Proof.Machine
end

