-- ==== Sys2Proof/Machine/Escape.lean ====
section
/-! DEFINITION. The escape transform (spec/42_escape.md): the encoder's pure function `zenc` (R171 to R173), the
decoder's `zdec` (R177), and the seven commands (R174 to R181). -/

namespace Sys2Proof.Machine

/-- A byte that can be escaped: 0x00..0x1F and 0x80..0x9F (R171). -/
def escapable (b : Byte) : Bool := b &&& 0x60 == 0

/-- `idx(b) = b[4:0] + 32 * b[7]`, a bit number of `ESCMAP` (R171). -/
def escapeIndex (b : Byte) : Nat := (b.extractLsb' 0 5).toNat + 32 * (b.extractLsb' 7 1).toNat

/-- `inset(b)`: the escape set holds `b`; a byte that is not escapable is never in it (R171). -/
def inEscapeSet (map : BitVec 64) (b : Byte) : Bool := escapable b && map.getLsbD (escapeIndex b)

/-- The CR context rule: a CR (either value of bit 7) right after an `@` on the wire (R172). -/
def crInContext (crctx : Bool) (b last : Byte) : Bool :=
  crctx && (b &&& 0x7F == 0x0D) && (last &&& 0x7F == 0x40)

/-- `esc_needed(b, last)` (R173). -/
def escNeeded (map : BitVec 64) (crctx : Bool) (b last : Byte) : Bool :=
  escapable b && (inEscapeSet map b || crInContext crctx b last)

/-- `zenc1(b, last)`: the wire bytes of one logical byte and the new last wire byte (R173). -/
def zenc1 (map : BitVec 64) (crctx : Bool) (b last : Byte) : List Byte × Byte :=
  if escNeeded map crctx b last then ([Config.zdle, b ^^^ Config.escXor], b ^^^ Config.escXor)
  else ([b], b)

/-- `zenc(d, last)`: the wire bytes of a byte sequence and the last wire byte (R173). -/
def zenc (map : BitVec 64) (crctx : Bool) (last : Byte) : List Byte → List Byte × Byte
  | [] => ([], last)
  | b :: d =>
    let head := zenc1 map crctx b last
    let tail := zenc map crctx head.2 d
    (head.1 ++ tail.1, tail.2)

/-- `first(zenc(d, last))` under the escape configuration the state holds. -/
def wireBytes (s : State) (d : List Byte) (last : Byte) : List Byte :=
  (zenc (escmap s) s.cfg.crctx last d).1

/-- The valid escape set: what may follow an introducer, 0x40..0x5F and 0xC0..0xDF (R177). -/
def validEscape (c : Byte) : Bool := c &&& 0x60 == 0x40

/-- One byte through the decoder: the byte it gives, if any, and the new pending bit (R177, R179). -/
def zdStep (pend : Bool) (b : Byte) : Except ResultCode (Option Byte × Bool) :=
  if pend then
    if validEscape b then .ok (some (b ^^^ Config.escXor), false) else .error .invalidEscape
  else if b = Config.zdle then .ok (none, true)
  else .ok (some b, false)

/-- The loop of `zdec` from a pending bit on; a stream that ends on an introducer is an error (R177). -/
def zdecFrom (pend : Bool) : List Byte → Except ResultCode (List Byte)
  | [] => if pend then .error .invalidEscape else .ok []
  | b :: w =>
    match zdStep pend b with
    | .error c => .error c
    | .ok (out, pend') =>
      match zdecFrom pend' w with
      | .error c => .error c
      | .ok r => .ok (out.toList ++ r)

/-- `zdec(w)`: a whole stream, nothing pending at its start (R177). -/
def zdec (w : List Byte) : Except ResultCode (List Byte) := zdecFrom false w

/-- `ZE.RST` (R174). -/
def execZeRst (s : State) : Result :=
  finish .zeRst .ok { s with zstate := { s.zstate with zeLast := 0x00 } }

/-- `ZE.PUT b` (R175). -/
def execZePut (b : Byte) (s : State) : Result :=
  finishEmit (.zePut b) (zenc1 (escmap s) s.cfg.crctx b s.zstate.zeLast).1 s

/-- `ZE.BUF` (R176). -/
def execZeBuf (s : State) : Result := finishEmit .zeBuf (wireBytes s s.txp s.zstate.zeLast) s

/-- `ZD.RST` (R178). -/
def execZdRst (s : State) : Result :=
  finish .zdRst .ok { s with zstate := { s.zstate with zdPend := false } }

/-- `ZD.PUT b`: the escape is tested before the space (R179). -/
def execZdPut (b : Byte) (s : State) : Result :=
  match zdStep s.zstate.zdPend b with
  | .error c => finish (.zdPut b) c s
  | .ok (none, pend) => finish (.zdPut b) .ok { s with zstate := { s.zstate with zdPend := pend } }
  | .ok (some out, pend) =>
    if s.rxp.length = Config.rxpCap then finish (.zdPut b) .bufferFull s
    else finish (.zdPut b) .ok
      { s with rxp := s.rxp ++ [out], zstate := { s.zstate with zdPend := pend } }

/-- `ZD.END`: reads the pending bit and does not change it (R180). -/
def execZdEnd (s : State) : Result :=
  if s.zstate.zdPend then finish .zdEnd .invalidEscape s else finish .zdEnd .ok s

/-- `ZD.BUF`: `IBUF` as one complete stream; the pending bit is neither read nor written (R181). -/
def execZdBuf (s : State) : Result :=
  match zdec s.ibuf with
  | .error c => finish .zdBuf c s
  | .ok r =>
    if r.length > Config.rxpCap then finish .zdBuf .bufferFull s
    else finish .zdBuf .ok { s with rxp := r, ibuf := [] }

end Sys2Proof.Machine
end

