-- ==== Sys2Proof/Machine/Serializer.lean ====
section
/-! DEFINITION. The frame serializer (spec/43_serializer.md): the wire images of an Xmodem block (R192), a
Ymodem block 0 (R195), a Zmodem header (R204 to R206) and a data subpacket (R208), and the five commands that
emit them (R194, R199, R200, R209, R210). No command changes its inputs (R212). -/

namespace Sys2Proof.Machine

/-- Payload bytes of a block of variant `v` (R192). -/
def blockSize : XVariant → Nat
  | .checksum | .crc => Config.xblkSmall
  | .oneK => Config.xblkLarge

/-- Header byte of a block of variant `v` (R192, R193). -/
def blockMarker : XVariant → Byte
  | .checksum | .crc => Config.soh
  | .oneK => Config.stx

/-- The trailer over a padded payload: the sum, or the CRC-16 high byte first (R192). -/
def blockTrailer (v : XVariant) (p : List Byte) : List Byte :=
  match v with
  | .checksum => [ck8 p 0]
  | .crc | .oneK => crc16Bytes (crc16 p Config.crc16Init)

/-- `d` filled with `pad` up to `n` bytes. -/
def padTo (n : Nat) (pad : Byte) (d : List Byte) : List Byte := d ++ List.replicate (n - d.length) pad

/-- The wire image of a block: header byte, number, complement, payload, trailer (R192). -/
def blockImage (v : XVariant) (number : Byte) (p : List Byte) : List Byte :=
  [blockMarker v, number, 255 - number] ++ p ++ blockTrailer v p

/-- The digits of `n` in a base up to 10 as ASCII bytes, most significant first, no leading zeros. The first
argument bounds the number of digits; 32 are enough for a 32-bit number in any base. -/
def digitText (base : Nat) : Nat → Nat → List Byte
  | 0, _ => []
  | fuel + 1, n =>
    if n < base then [BitVec.ofNat 8 (0x30 + n)]
    else digitText base fuel (n / base) ++ [BitVec.ofNat 8 (0x30 + n % base)]

/-- `dec_ascii(n)` (R198). -/
def decAscii (n : Word) : List Byte := digitText 10 32 n.toNat

/-- `oct_ascii(n)` (R198). -/
def octAscii (n : Word) : List Byte := digitText 8 32 n.toNat

/-- The text `T` of a block 0: name, terminator, size, mtime, mode (R195). -/
def yb0Text (name : List Byte) (size mtime mode : Word) : List Byte :=
  name ++ [0x00] ++ decAscii size ++ [0x20] ++ octAscii mtime ++ [0x20] ++ octAscii mode ++ [0x00]

/-- The lowercase hexadecimal digit of a nibble (R204). -/
def hexDigit (n : BitVec 4) : Byte :=
  if n < 10 then 0x30 + n.setWidth 8 else 0x57 + n.setWidth 8

/-- `hex2(b)`: high nibble first (R204). -/
def hex2 (b : Byte) : List Byte := [hexDigit (b.extractLsb' 4 4), hexDigit (b.extractLsb' 0 4)]

/-- The five logical bytes of a header (R201). -/
def headerBody (ztype : Byte) (hb : Word) : List Byte := ztype :: wordBytes hb

/-- A hex header is followed by an XON unless its type is `ZACK` (3) or `ZFIN` (8) (R204). -/
def hexTail (ztype : Byte) : List Byte := if ztype = 3 ∨ ztype = 8 then [] else [Config.xon]

/-- `zhex(type, HB)` (R204). -/
def zhex (ztype : Byte) (hb : Word) : List Byte :=
  let body := headerBody ztype hb
  [Config.zpad, Config.zpad, Config.zdle, Config.zhexLetter]
    ++ (body ++ crc16Bytes (crc16 body Config.crc16Init)).flatMap hex2
    ++ [Config.hexCr, Config.hexLf] ++ hexTail ztype

/-- `zbin16(type, HB)` (R205). -/
def zbin16 (s : State) (ztype : Byte) (hb : Word) : List Byte :=
  let body := headerBody ztype hb
  [Config.zpad, Config.zdle, Config.zbin]
    ++ wireBytes s (body ++ crc16Bytes (crc16 body Config.crc16Init)) Config.zbin

/-- `zbin32(type, HB)` (R206). -/
def zbin32 (s : State) (ztype : Byte) (hb : Word) : List Byte :=
  let body := headerBody ztype hb
  [Config.zpad, Config.zdle, Config.zbin32Letter]
    ++ wireBytes s (body ++ wordBytes (crc32 body)) Config.zbin32Letter

/-- The wire image of a header in an encoding (R209). -/
def headerImage (s : State) (enc : ZEncoding) (ztype : Byte) (hb : Word) : List Byte :=
  match enc with
  | .hex => zhex ztype hb
  | .bin16 => zbin16 s ztype hb
  | .bin32 => zbin32 s ztype hb

/-- The end-of-subpacket marker of a selector (R207). -/
def markerByte (zend : BitVec 2) : Byte := Config.markerBase + zend.setWidth 8

/-- The CRC bytes of a subpacket, over the payload and the marker; the width is `CFG.ZCRCW` (R208). -/
def subpacketCrc (wide : Bool) (d : List Byte) (m : Byte) : List Byte :=
  if wide then wordBytes (crc32 (d ++ [m])) else crc16Bytes (crc16 (d ++ [m]) Config.crc16Init)

/-- `zsub(d, m, last0)` (R208). -/
def zsub (s : State) (d : List Byte) (m last0 : Byte) : List Byte :=
  wireBytes s d last0 ++ [Config.zdle, m] ++ wireBytes s (subpacketCrc s.cfg.zcrcw d m) m

/-- `FS.XBLK` (R194). -/
def execFsXblk (s : State) : Result :=
  let v := s.cfg.xvar
  if s.txp.length > blockSize v then finish .fsXblk .overrun s
  else finishEmit .fsXblk (blockImage v s.txDesc.blk (padTo (blockSize v) Config.padByte s.txp)) s

/-- `FS.YB0`: always a block of variant `Crc` with number 0 (R199). -/
def execFsYb0 (s : State) : Result :=
  if s.txp.length = 0 ∨ s.txp.contains 0x00 then finish .fsYb0 .illegalCommand s
  else
    let text := yb0Text s.txp s.txYsize s.txYmtime s.txYmode
    if text.length > Config.xblkSmall then finish .fsYb0 .overrun s
    else finishEmit .fsYb0 (blockImage .crc 0x00 (padTo Config.xblkSmall 0x00 text)) s

/-- `FS.YEOB`: the all-zero block 0 with its trailer `00 00` (R200). -/
def execFsYeob (s : State) : Result :=
  finishEmit .fsYeob ([Config.soh, 0x00, 0xFF] ++ List.replicate 128 0x00 ++ [0x00, 0x00]) s

/-- `FS.ZHDR` (R209). -/
def execFsZhdr (s : State) : Result :=
  if s.txDesc.ztype.toNat > Config.maxFrameType then finish .fsZhdr .invalidFrameType s
  else finishEmit .fsZhdr (headerImage s s.txDesc.zenc (s.txDesc.ztype.setWidth 8) s.txZhdr) s

/-- `FS.ZDAT` (R210). -/
def execFsZdat (s : State) : Result :=
  finishEmit .fsZdat (zsub s s.txp (markerByte s.txDesc.zend) s.zstate.zeLast) s

end Sys2Proof.Machine
end

