-- ==== Sys2Proof/Machine/Parser.lean ====
section
/-! DEFINITION. The frame parser (spec/44_parser.md). Each scan reads `IBUF` from its front and answers either
the unit's contents with the bytes behind it, or the code of the first problem met (R220); each command then
records the two check values (R41), compares them and, on `Ok`, writes its result registers and removes the
unit (R222, R224, R232, R233). -/

namespace Sys2Proof.Machine

/-- A whole Xmodem-shaped block at the front of the buffer, before its trailer is compared. -/
structure ScannedBlock where
  /-- The block number. -/
  number : Byte
  /-- All payload bytes. -/
  payload : List Byte
  /-- The check value over the payload. -/
  computed : Word
  /-- The check value in the trailer. -/
  received : Word
  /-- The bytes behind the block. -/
  rest : List Byte
  deriving DecidableEq, Repr

/-- A whole Zmodem header at the front of the buffer, before its CRC is compared. -/
structure ScannedHeader where
  /-- Encoding the header arrived in. -/
  enc : ZEncoding
  /-- The logical bytes: type, four header bytes, CRC bytes. -/
  logical : List Byte
  /-- The CRC over the first five logical bytes. -/
  computed : Word
  /-- The CRC on the wire. -/
  received : Word
  /-- The bytes behind the header. -/
  rest : List Byte
  deriving DecidableEq, Repr

/-- A whole data subpacket at the front of the buffer, before its CRC is compared. -/
structure ScannedData where
  /-- The payload. -/
  payload : List Byte
  /-- The end-of-subpacket marker. -/
  marker : Byte
  /-- The CRC over payload and marker. -/
  computed : Word
  /-- The CRC on the wire. -/
  received : Word
  /-- The bytes behind the subpacket. -/
  rest : List Byte
  deriving DecidableEq, Repr

/-- Bytes in the trailer of a block (R222). -/
def trailerLength : XVariant → Nat
  | .checksum => 1
  | .crc | .oneK => 2

/-- Wire length of a block, 132, 133 or 1029 (R192, R222). -/
def blockLength (v : XVariant) : Nat := 3 + blockSize v + trailerLength v

/-- The check value a parser computes over a payload, zero-extended (R222, R41). -/
def blockCheck (v : XVariant) (p : List Byte) : Word :=
  match v with
  | .checksum => (ck8 p 0).setWidth 32
  | .crc | .oneK => (crc16 p Config.crc16Init).setWidth 32

/-- The check value in the trailer that starts at index `i`, zero-extended (R222, R41). -/
def trailerCheck (v : XVariant) (w : List Byte) (i : Nat) : Word :=
  match v with
  | .checksum => (byteAt w i).setWidth 32
  | .crc | .oneK => (halfOf (byteAt w i) (byteAt w (i + 1))).setWidth 32

/-- The code of a trailer that differs (R222). -/
def mismatchCode : XVariant → ResultCode
  | .checksum => .checksumMismatch
  | .crc | .oneK => .crcMismatch

/-- `FP.XBLK` up to the comparison: header byte, presence, complement (R221, R222). -/
def scanBlock (v : XVariant) (w : List Byte) : Except ResultCode ScannedBlock :=
  if w.length = 0 then .error .incomplete
  else if byteAt w 0 ≠ blockMarker v then .error .invalidBlockHeader
  else if w.length < blockLength v then .error .incomplete
  else if byteAt w 2 ≠ 255 - byteAt w 1 then .error .complementMismatch
  else
    let p := (w.drop 3).take (blockSize v)
    .ok { number := byteAt w 1
          payload := p
          computed := blockCheck v p
          received := trailerCheck v w (3 + blockSize v)
          rest := w.drop (blockLength v) }

/-- `FP.XBLK` (R222). -/
def execFpXblk (s : State) : Result :=
  match scanBlock s.cfg.xvar s.ibuf with
  | .error c => finish .fpXblk c s
  | .ok u =>
    let s1 := setCheckValues u.computed u.received s
    if u.computed ≠ u.received then finish .fpXblk (mismatchCode s.cfg.xvar) s1
    else finish .fpXblk .ok
      { s1 with rxDesc := { s1.rxDesc with blk := u.number }, rxp := u.payload, ibuf := u.rest }

/-- What a block 0's payload says (R224). -/
structure Yb0Fields where
  /-- The end-of-batch block. -/
  eob : Bool
  /-- Length of the name. -/
  nlen : Nat
  /-- The numbers found, size, mtime, mode in that order, as true numbers. -/
  numbers : List Nat
  deriving DecidableEq, Repr

/-- A digit of a base up to 10, as an ASCII byte (R227). -/
def isDigit (base : Nat) (b : Byte) : Bool := decide (0x30 ≤ b.toNat) && decide (b.toNat < 0x30 + base)

/-- The run at the front: the longest sequence of digits (R227). -/
def digitRun (base : Nat) (p : List Byte) : List Byte := p.takeWhile (isDigit base)

/-- The true number of a run, most significant digit first (R227). -/
def runNumber (base : Nat) (run : List Byte) : Nat :=
  run.foldl (fun v b => v * base + (b.toNat - 0x30)) 0

/-- Up to `k` further octal numbers, each after exactly one space (R227). -/
def octalNumbers : Nat → List Byte → List Nat
  | 0, _ => []
  | _ + 1, [] => []
  | k + 1, b :: p =>
    if b ≠ 0x20 then []
    else
      let run := digitRun 8 p
      if run = [] then [] else runNumber 8 run :: octalNumbers k (p.drop run.length)

/-- The numbers of the metadata tail: a decimal size, then octal mtime and mode (R227). -/
def yb0Numbers (p : List Byte) : List Nat :=
  let run := digitRun 10 p
  if run = [] then [] else runNumber 10 run :: octalNumbers 2 (p.drop run.length)

/-- `yb0_fields(p)` (R225 to R227): all zero is end of batch; else the name runs to the first 0x00 and the
numbers are read behind it. -/
def yb0Fields (p : List Byte) : Yb0Fields :=
  if p.all (· == 0x00) then { eob := true, nlen := 0, numbers := [] }
  else
    let name := p.takeWhile (· != 0x00)
    { eob := false, nlen := name.length, numbers := yb0Numbers (p.drop (name.length + 1)) }

/-- The register value of the `k`-th number, modulo 2^32, 0 if it was not found (R227). -/
def yb0Value (f : Yb0Fields) (k : Nat) : Word := BitVec.ofNat 32 (f.numbers.getD k 0)

/-- Some number found does not fit in 32 bits (R227). -/
def yb0Overflow (f : Yb0Fields) : Bool := f.numbers.any (fun n => decide (2 ^ 32 ≤ n))

/-- The registers `FP.YB0` writes on `Ok` (R224); the Zmodem fields of `RX_DESC` keep what they held. -/
def setYb0 (f : Yb0Fields) (s : State) : State :=
  { s with
    rxDesc := { s.rxDesc with
      blk := 0
      yeob := f.eob
      ysizeP := decide (0 < f.numbers.length)
      ymtimeP := decide (1 < f.numbers.length)
      ymodeP := decide (2 < f.numbers.length)
      yovf := yb0Overflow f }
    rxYnlen := BitVec.ofNat 8 f.nlen
    rxYsize := yb0Value f 0
    rxYmtime := yb0Value f 1
    rxYmode := yb0Value f 2 }

/-- `FP.YB0` (R224): a block of variant `Crc`, whatever `CFG.XVAR` holds; the number is judged after the CRC. -/
def execFpYb0 (s : State) : Result :=
  match scanBlock .crc s.ibuf with
  | .error c => finish .fpYb0 c s
  | .ok u =>
    let s1 := setCheckValues u.computed u.received s
    if u.computed ≠ u.received then finish .fpYb0 .crcMismatch s1
    else if u.number ≠ 0 then finish .fpYb0 .invalidBlockHeader s1
    else finish .fpYb0 .ok { setYb0 (yb0Fields u.payload) s1 with rxp := u.payload, ibuf := u.rest }

/-- `hexval`: 0..9 and lowercase a..f only (R229). -/
def hexval (b : Byte) : Option Nat :=
  if 0x30 ≤ b.toNat ∧ b.toNat ≤ 0x39 then some (b.toNat - 0x30)
  else if 0x61 ≤ b.toNat ∧ b.toNat ≤ 0x66 then some (b.toNat - 0x61 + 10)
  else none

/-- `n` logical bytes of a hex body, two digits each, high nibble first, and the bytes behind them (R229,
R232). -/
def hexBytes : Nat → List Byte → Except ResultCode (List Byte × List Byte)
  | 0, w => .ok ([], w)
  | _ + 1, [] => .error .incomplete
  | n + 1, b0 :: w0 =>
    match hexval b0 with
    | none => .error .invalidFrameEncoding
    | some d0 =>
      match w0 with
      | [] => .error .incomplete
      | b1 :: w1 =>
        match hexval b1 with
        | none => .error .invalidFrameEncoding
        | some d1 =>
          match hexBytes n w1 with
          | .error c => .error c
          | .ok (l, rest) => .ok (BitVec.ofNat 8 (16 * d0 + d1) :: l, rest)

/-- `unesc_next`: one logical byte and the bytes behind it; an introducer at the end of the bytes present is
`Incomplete` (R230). -/
def unescNext (w : List Byte) : Except ResultCode (Byte × List Byte) :=
  match w with
  | [] => .error .incomplete
  | b :: w1 =>
    if b ≠ Config.zdle then .ok (b, w1)
    else
      match w1 with
      | [] => .error .incomplete
      | c :: w2 => if validEscape c then .ok (c ^^^ Config.escXor, w2) else .error .invalidEscape

/-- `n` logical bytes by `unesc_next` (R230). -/
def unescBytes : Nat → List Byte → Except ResultCode (List Byte × List Byte)
  | 0, w => .ok ([], w)
  | n + 1, w =>
    match unescNext w with
    | .error c => .error c
    | .ok (b, w1) =>
      match unescBytes n w1 with
      | .error c => .error c
      | .ok (l, rest) => .ok (b :: l, rest)

/-- A CRC-16 read from two logical bytes, high byte first, zero-extended (R88, R41). -/
def crc16Received (l : List Byte) : Word := (halfOf (byteAt l 0) (byteAt l 1)).setWidth 32

/-- A CRC-32 read from four logical bytes, low byte first (R88). -/
def crc32Received (l : List Byte) : Word := wordOf (byteAt l 3) (byteAt l 2) (byteAt l 1) (byteAt l 0)

/-- A header whose logical bytes have been read, with a CRC-16 behind its body (R232). -/
def scanned16 (enc : ZEncoding) (l rest : List Byte) : ScannedHeader :=
  { enc, logical := l, computed := (crc16 (l.take 5) Config.crc16Init).setWidth 32
    received := crc16Received (l.drop 5), rest }

/-- A header whose logical bytes have been read, with a CRC-32 behind its body (R232). -/
def scanned32 (l rest : List Byte) : ScannedHeader :=
  { enc := .bin32, logical := l, computed := crc32 (l.take 5), received := crc32Received (l.drop 5), rest }

/-- The body announced by the letter `e` (R228 to R232). -/
def scanHeaderBody (e : Byte) (w : List Byte) : Except ResultCode ScannedHeader :=
  if e = Config.zhexLetter then
    match hexBytes 7 w with
    | .error c => .error c
    | .ok (l, rest) => .ok (scanned16 .hex l rest)
  else if e = Config.zbin then
    match unescBytes 7 w with
    | .error c => .error c
    | .ok (l, rest) => .ok (scanned16 .bin16 l rest)
  else if e = Config.zbin32Letter then
    match unescBytes 9 w with
    | .error c => .error c
    | .ok (l, rest) => .ok (scanned32 l rest)
  else .error .invalidFrameEncoding

/-- What follows the pad bytes of a header: the introducer, the letter and the body (R228, R232). -/
def scanAfterPads (w : List Byte) : Except ResultCode ScannedHeader :=
  match w with
  | [] => .error .incomplete
  | d :: w1 =>
    if d ≠ Config.zdle then .error .invalidFrameEncoding
    else
      match w1 with
      | [] => .error .incomplete
      | e :: w2 => scanHeaderBody e w2

/-- `FP.ZHDR` up to the comparison: one or more pad bytes, then the rest (R228, R232). -/
def scanHeader (w : List Byte) : Except ResultCode ScannedHeader :=
  match w with
  | [] => .error .incomplete
  | b :: _ =>
    if b ≠ Config.zpad then .error .invalidFrameEncoding
    else scanAfterPads (w.dropWhile (· == Config.zpad))

/-- `FP.ZHDR` (R232): the CRC is judged before the type (R231). -/
def execFpZhdr (s : State) : Result :=
  match scanHeader s.ibuf with
  | .error c => finish .fpZhdr c s
  | .ok u =>
    let s1 := setCheckValues u.computed u.received s
    let l := u.logical
    if u.computed ≠ u.received then finish .fpZhdr .crcMismatch s1
    else if (byteAt l 0).toNat > Config.maxFrameType then finish .fpZhdr .invalidFrameType s1
    else finish .fpZhdr .ok
      { s1 with
        rxDesc := { s1.rxDesc with ztype := (byteAt l 0).setWidth 5, zenc := u.enc }
        rxZhdr := wordOf (byteAt l 4) (byteAt l 3) (byteAt l 2) (byteAt l 1)
        ibuf := u.rest }

/-- An end-of-subpacket marker, 0x68 to 0x6B (R207, R233). -/
def isMarker (c : Byte) : Bool := decide (0x68 ≤ c.toNat) && decide (c.toNat ≤ 0x6B)

/-- A payload byte in front of an already scanned remainder. -/
def consPayload (b : Byte) :
    Except ResultCode (List Byte × Byte × List Byte) → Except ResultCode (List Byte × Byte × List Byte)
  | .error c => .error c
  | .ok (d, m, rest) => .ok (b :: d, m, rest)

/-- The loop of `FP.ZDAT` with `n` payload bytes already read: the further payload, the marker and the bytes
behind it. Markers are recognised before escapes, and the 1025th payload byte is `Overrun` (R233). -/
def scanPayload (n : Nat) : List Byte → Except ResultCode (List Byte × Byte × List Byte)
  | [] => .error .incomplete
  | b :: w =>
    if b = Config.zdle then
      match w with
      | [] => .error .incomplete
      | c :: w1 =>
        if isMarker c then .ok ([], c, w1)
        else if validEscape c then
          if n = Config.rxpCap then .error .overrun
          else consPayload (c ^^^ Config.escXor) (scanPayload (n + 1) w1)
        else .error .invalidEscape
    else if n = Config.rxpCap then .error .overrun
    else consPayload b (scanPayload (n + 1) w)

/-- `FP.ZDAT` up to the comparison; `wide` is `CFG.ZCRCW` (R233). -/
def scanData (wide : Bool) (w : List Byte) : Except ResultCode ScannedData :=
  match scanPayload 0 w with
  | .error c => .error c
  | .ok (d, m, w1) =>
    if wide then
      match unescBytes 4 w1 with
      | .error c => .error c
      | .ok (cb, rest) =>
        .ok { payload := d, marker := m, computed := crc32 (d ++ [m]), received := crc32Received cb, rest }
    else
      match unescBytes 2 w1 with
      | .error c => .error c
      | .ok (cb, rest) =>
        .ok { payload := d, marker := m, computed := (crc16 (d ++ [m]) Config.crc16Init).setWidth 32
              received := crc16Received cb, rest }

/-- `FP.ZDAT` (R233). -/
def execFpZdat (s : State) : Result :=
  match scanData s.cfg.zcrcw s.ibuf with
  | .error c => finish .fpZdat c s
  | .ok u =>
    let s1 := setCheckValues u.computed u.received s
    if u.computed ≠ u.received then finish .fpZdat .crcMismatch s1
    else finish .fpZdat .ok
      { s1 with
        rxDesc := { s1.rxDesc with zend := (u.marker - Config.markerBase).setWidth 2 }
        rxp := u.payload
        ibuf := u.rest }

end Sys2Proof.Machine
end

