-- ==== Sys2Proof/Machine/Retry.lean ====
section
/-! DEFINITION. The retry timeout counter (spec/45_retry_timeout.md R250 to R256). `Timeout` and
`MaxRetriesExceeded` are results, not faults: the command that reports them has made its change (R250). Every
command but `RT.RST` first refuses with `MaxRetriesExceeded` while `EXH` is set (R252 to R255, R277). -/

namespace Sys2Proof.Machine

/-- A counted failure and how it ends: `MaxRetriesExceeded` when this failure exhausted the budget, else `c`
(R254, R255, R256). -/
def finishBump (i : Instr) (c : ResultCode) (s : State) : Result :=
  let r := bump s.rtMax s.rtStat
  finish i (if r.exh then .maxRetriesExceeded else c) { s with rtStat := r }

/-- `RT.RST` (R251). -/
def execRtRst (s : State) : Result :=
  finish .rtRst .ok { s with rtStat := { cnt := 0, armed := false, exh := false }, rtDl := 0 }

/-- `RT.ARM`: the deadline is `now` plus the timeout, modulo 2^64 (R252). -/
def execRtArm (s : State) : Result :=
  if s.rtStat.exh then finish .rtArm .maxRetriesExceeded s
  else finish .rtArm .ok
    { s with rtDl := s.now + s.rtTmo.setWidth 64, rtStat := { s.rtStat with armed := true } }

/-- `RT.OK`: `RT_DL` keeps its value (R253). -/
def execRtOk (s : State) : Result :=
  if s.rtStat.exh then finish .rtOk .maxRetriesExceeded s
  else finish .rtOk .ok { s with rtStat := { s.rtStat with cnt := 0, armed := false } }

/-- `RT.FAIL` (R254). -/
def execRtFail (s : State) : Result :=
  if s.rtStat.exh then finish .rtFail .maxRetriesExceeded s
  else finishBump .rtFail .ok s

/-- `RT.POLL`: the comparison of `now` with the deadline is unsigned (R255). -/
def execRtPoll (s : State) : Result :=
  if s.rtStat.exh then finish .rtPoll .maxRetriesExceeded s
  else if !s.rtStat.armed then finish .rtPoll .ok s
  else if s.now < s.rtDl then finish .rtPoll .ok s
  else finishBump .rtPoll .timeout s

end Sys2Proof.Machine
end

