-- ==== Sys2Proof/Machine/System.lean ====
section
/-! DEFINITION. The system commands `NOP` and `SRST` (spec/40_system_buffers.md R131, R132). -/

namespace Sys2Proof.Machine

/-- `NOP`: nothing, and `RESULT.CODE` becomes `Ok` (R131). -/
def execNop (s : State) : Result := finish .nop .ok s

/-- `SRST`: the reset state, then the status update with `Ok`, so `RESULT`, `ERRFLAGS` and `ERRINFO` end 0
(R132, R302). -/
def execSrst (s : State) : Result := finish .srst .ok (resetBlock s)

end Sys2Proof.Machine
end

