-- ==== Sys2Proof/Machine/Dispatch.lean ====
section
/-! DEFINITION. The meaning of every command: one arm per constructor of Instr, each one call of that
command's own definition (spec/30_encoding.md R113). -/

namespace Sys2Proof.Machine

def exec (i : Instr) (s : State) : Host.Outcome State Fault Refusal :=
  match i with
  -- System commands (spec/40_system_buffers.md)
  | .nop => Sys2Proof.Machine.execNop s
  | .srst => Sys2Proof.Machine.execSrst s
  -- Buffer commands (spec/40_system_buffers.md)
  | .ibPush b => Sys2Proof.Machine.execIbPush b s
  | .ibClr => Sys2Proof.Machine.execIbClr s
  | .ibDrop n => Sys2Proof.Machine.execIbDrop n s
  | .ibHunt => Sys2Proof.Machine.execIbHunt s
  | .obPush b => Sys2Proof.Machine.execObPush b s
  | .obPop => Sys2Proof.Machine.execObPop s
  | .obClr => Sys2Proof.Machine.execObClr s
  | .tpPush b => Sys2Proof.Machine.execTpPush b s
  | .tpClr => Sys2Proof.Machine.execTpClr s
  | .rpPop => Sys2Proof.Machine.execRpPop s
  | .rpClr => Sys2Proof.Machine.execRpClr s
  -- Checksum engine (spec/41_checksum.md)
  | .ck8Init => Sys2Proof.Machine.execCk8Init s
  | .ck8Upd b => Sys2Proof.Machine.execCk8Upd b s
  | .ck8Buf => Sys2Proof.Machine.execCk8Buf s
  | .c16Init => Sys2Proof.Machine.execC16Init s
  | .c16Upd b => Sys2Proof.Machine.execC16Upd b s
  | .c16Buf => Sys2Proof.Machine.execC16Buf s
  | .c32Init => Sys2Proof.Machine.execC32Init s
  | .c32Upd b => Sys2Proof.Machine.execC32Upd b s
  | .c32Buf => Sys2Proof.Machine.execC32Buf s
  -- Escape transform (spec/42_escape.md)
  | .zeRst => Sys2Proof.Machine.execZeRst s
  | .zePut b => Sys2Proof.Machine.execZePut b s
  | .zeBuf => Sys2Proof.Machine.execZeBuf s
  | .zdRst => Sys2Proof.Machine.execZdRst s
  | .zdPut b => Sys2Proof.Machine.execZdPut b s
  | .zdEnd => Sys2Proof.Machine.execZdEnd s
  | .zdBuf => Sys2Proof.Machine.execZdBuf s
  -- Frame serializer (spec/43_serializer.md)
  | .fsXblk => Sys2Proof.Machine.execFsXblk s
  | .fsYb0 => Sys2Proof.Machine.execFsYb0 s
  | .fsYeob => Sys2Proof.Machine.execFsYeob s
  | .fsZhdr => Sys2Proof.Machine.execFsZhdr s
  | .fsZdat => Sys2Proof.Machine.execFsZdat s
  -- Frame parser (spec/44_parser.md)
  | .fpXblk => Sys2Proof.Machine.execFpXblk s
  | .fpYb0 => Sys2Proof.Machine.execFpYb0 s
  | .fpZhdr => Sys2Proof.Machine.execFpZhdr s
  | .fpZdat => Sys2Proof.Machine.execFpZdat s
  -- Retry timeout counter (spec/45_retry_timeout.md)
  | .rtRst => Sys2Proof.Machine.execRtRst s
  | .rtArm => Sys2Proof.Machine.execRtArm s
  | .rtOk => Sys2Proof.Machine.execRtOk s
  | .rtFail => Sys2Proof.Machine.execRtFail s
  | .rtPoll => Sys2Proof.Machine.execRtPoll s

end Sys2Proof.Machine
end

