-- ==== Sys2Proof/Machine/Bus.lean ====
section
/-! DEFINITION. What one host event does (spec/20_memory.md R80 to R85, R92): a register read, a register
write, a command (a write to `CMD`, spec/10_state.md R24) or the platform's reset (R300). -/

namespace Sys2Proof.Machine

/-- "A host write of the 32-bit word `w` to `CMD` executes the command that `w` encodes" (R24), or ends
`IllegalCommand` (R114). -/
def runCommand (w : Word) (s : State) : Result :=
  match decode w with
  | .ok i => exec i s
  | .error _ => finishIllegal w s

/-- An accepted write (R82): offset 0 is `CMD`. -/
def busWrite (off : Nat) (v : Word) (s : State) : Result :=
  if off = 0 then runCommand v s else .next (regWrite off v s)

/-- An accepted read answers the register's word to the host and changes no state of the block (R81). -/
def busRead (off : Nat) (s : State) : Result :=
  .next { s with readData := regRead off s }

/-- One host event. An access the block does not accept has no step (R83). -/
def perform (e : HostEvent) (s : State) : Result :=
  match e with
  | .read off bytes => if accessAccepted off bytes then busRead off s else .refused .unacceptedAccess
  | .write off bytes v => if accessAccepted off bytes then busWrite off v s else .refused .unacceptedAccess
  | .reset => .next (resetBlock s)

/-- The write of the word `w` (of `nbits` bits, every bit above them 0) to `CMD` at the current time: how the
host issues one command (R24, R11). -/
def commandAction (s : State) (nbits w : Nat) : HostAction :=
  { time := s.now, event := .write 0 4 (BitVec.ofNat 32 (w % 2 ^ nbits)) }

end Sys2Proof.Machine
end

