-- ==== Sys2Proof/Machine/Step.lean ====
section
/-! DEFINITION. One step of the machine: the oldest pending host action is performed, with the time input at
the value it has at that instant; with nothing pending the block is idle and nothing changes
(spec/20_memory.md R92, spec/60_exceptions.md R276, R280, spec/70_reset_and_hazards.md R300). The block fetches
nothing (R96): its commands are the host's writes to `CMD`. -/

namespace Sys2Proof.Machine

/-- One step. -/
def step (s : State) : Host.Outcome State Fault Refusal :=
  match s.pending with
  | [] => .next s
  | a :: rest => perform a.event { s with now := a.time, pending := rest }

/-- The state with the command word `w` written to `CMD` as the very next host action (log entry 1). -/
def State.withFetchWord (s : State) (nbits w : Nat) : State :=
  { s with pending := commandAction s nbits w :: s.pending }

end Sys2Proof.Machine
end

