-- ==== Sys2Proof/Safety.lean ====
section
/-! DEFINITION. The terms the claims are stated in: what a safe run is, the invariant of the machine's states,
and the spec's own tables (the opcode map, the register map, the outcomes and the registers of each command)
written a second time, row by row from the spec, so that a claim compares the model with the table and not
with itself. Nothing here is used by the machine. -/

namespace Sys2Proof.Machine

/-! ## How a command ends -/

/-- The command ended `Ok` after making the state `s`: only `RESULT.CODE` is written (R273). -/
def endedOk (s : State) : State := { s with result := .ok }

/-- The command with word `w` ended with the code `c`, which is not `Ok`, after making the state `s` (R273). -/
def ended (c : ResultCode) (w : Word) (s : State) : State :=
  { s with
    result := c
    errflags := s.errflags ||| (1#32 <<< (codeNumber c).toNat)
    errinfo := w }

/-- The state after `emit(w)` (R144): the bytes are appended, and if there are any the last one is `ZE_LAST`. -/
def emitted (w : List Byte) (s : State) : State :=
  if h : w = [] then s
  else { s with obuf := s.obuf ++ w, zstate := { s.zstate with zeLast := w.getLast h } }

/-- Commands executed one after the other (R11). -/
def runCommands : List Instr → State → Result
  | [], s => .next s
  | i :: is, s =>
    match exec i s with
    | .next t => runCommands is t
    | .fault f => .fault f
    | .refused r => .refused r

/-- A change made to the state an outcome holds. -/
def mapNext (f : State → State) : Result → Result
  | .next t => .next (f t)
  | .fault e => .fault e
  | .refused r => .refused r

/-! ## Safe hosts and safe states -/

/-- A host event the block performs: the platform's reset, or an aligned 32-bit access inside the window
(R83). -/
def eventAccepted : HostEvent → Bool
  | .read off bytes => decide (bytes = 4 ∧ off % 4 = 0 ∧ off ≤ 0xFC)
  | .write off bytes _ => decide (bytes = 4 ∧ off % 4 = 0 ∧ off ≤ 0xFC)
  | .reset => true

/-- The host makes only accesses the block accepts. -/
abbrev HostOk (s : State) : Prop := ∀ a ∈ s.pending, eventAccepted a.event = true

/-- The time input never decreases from one action to the next (R250). -/
abbrev MonotoneTime (s : State) : Prop := List.Pairwise (· ≤ ·) (s.now :: s.pending.map HostAction.time)

/-- The invariant: no buffer exceeds its capacity (R60 to R63, R86); reserved `ERRFLAGS` bits are 0 (R26); the
introducer's bit of `ESCMAP_LO` is 1 (R29); the reported frame type is assigned (R38); the name length fits a
block 0 and its presence flags are nested (R225 to R227); an exhausted counter is not armed and has counted,
and one that is not exhausted cannot overflow (R256). -/
abbrev State.Inv (s : State) : Prop :=
  (s.ibuf.length ≤ 4096 ∧ s.obuf.length ≤ 4096 ∧ s.txp.length ≤ 1024 ∧ s.rxp.length ≤ 1024)
  ∧ s.errflags &&& ~~~0x001F03FE#32 = 0
  ∧ s.escmapLo.getLsbD 24 = true
  ∧ s.rxDesc.ztype.toNat ≤ 19
  ∧ s.rxYnlen.toNat ≤ 128
  ∧ (s.rxDesc.ymodeP = true → s.rxDesc.ymtimeP = true)
  ∧ (s.rxDesc.ymtimeP = true → s.rxDesc.ysizeP = true)
  ∧ (s.rxDesc.yovf = true → s.rxDesc.ysizeP = true)
  ∧ (s.rxDesc.yeob = true → s.rxDesc.ysizeP = false ∧ s.rxYnlen = 0)
  ∧ (s.rtStat.exh = true → s.rtStat.armed = false ∧ s.rtStat.cnt ≠ 0)
  ∧ (s.rtStat.exh = false → s.rtStat.cnt.toNat < 65535)

/-! ## The opcode map (spec/30_encoding.md R111, R113) -/

/-- A format with the command it makes of its operand. -/
inductive CommandForm where
  /-- Format N. -/
  | none (i : Instr)
  /-- Format B. -/
  | byte (f : Byte → Instr)
  /-- Format H. -/
  | half (f : Nat → Instr)

/-- The mask of a format (R111). -/
def formMask : CommandForm → Word
  | .none _ => 0xFFFFFFFF
  | .byte _ => 0xFFFFFF00
  | .half _ => 0xFFFF0000

/-- The command a form makes of a word: `IMM8 = w[7:0]`, `IMM16 = w[15:0]` (R112). -/
def formCommand (w : Word) : CommandForm → Instr
  | .none i => i
  | .byte f => f (w.setWidth 8)
  | .half f => f (w.toNat % 65536)

/-- A row of the map. -/
structure OpcodeRow where
  /-- `OP`. -/
  op : Byte
  /-- The format and the command. -/
  form : CommandForm

/-- `match`, the value of `w AND mask` (R113). -/
def rowMatch (r : OpcodeRow) : Word := r.op.setWidth 32 <<< 24

/-- Opcodes 0x00 to 0x0F (R113). -/
def opcodeMapSystem : List OpcodeRow :=
  [⟨0x00, .none .nop⟩, ⟨0x01, .none .srst⟩, ⟨0x02, .byte .ibPush⟩,
   ⟨0x03, .none .ibClr⟩, ⟨0x04, .half .ibDrop⟩, ⟨0x05, .none .ibHunt⟩,
   ⟨0x06, .byte .obPush⟩, ⟨0x07, .none .obPop⟩, ⟨0x08, .none .obClr⟩,
   ⟨0x09, .byte .tpPush⟩, ⟨0x0A, .none .tpClr⟩, ⟨0x0B, .none .rpPop⟩,
   ⟨0x0C, .none .rpClr⟩]

/-- Opcodes 0x10 to 0x1F (R113). -/
def opcodeMapChecksum : List OpcodeRow :=
  [⟨0x10, .none .ck8Init⟩, ⟨0x11, .byte .ck8Upd⟩, ⟨0x12, .none .ck8Buf⟩,
   ⟨0x13, .none .c16Init⟩, ⟨0x14, .byte .c16Upd⟩, ⟨0x15, .none .c16Buf⟩,
   ⟨0x16, .none .c32Init⟩, ⟨0x17, .byte .c32Upd⟩, ⟨0x18, .none .c32Buf⟩]

/-- Opcodes 0x20 to 0x2F (R113). -/
def opcodeMapEscape : List OpcodeRow :=
  [⟨0x20, .none .zeRst⟩, ⟨0x21, .byte .zePut⟩, ⟨0x22, .none .zeBuf⟩,
   ⟨0x24, .none .zdRst⟩, ⟨0x25, .byte .zdPut⟩, ⟨0x26, .none .zdEnd⟩,
   ⟨0x27, .none .zdBuf⟩]

/-- Opcodes 0x30 to 0x3F (R113). -/
def opcodeMapSerializer : List OpcodeRow :=
  [⟨0x30, .none .fsXblk⟩, ⟨0x31, .none .fsYb0⟩, ⟨0x32, .none .fsYeob⟩,
   ⟨0x33, .none .fsZhdr⟩, ⟨0x34, .none .fsZdat⟩]

/-- Opcodes 0x40 to 0x4F (R113). -/
def opcodeMapParser : List OpcodeRow :=
  [⟨0x40, .none .fpXblk⟩, ⟨0x41, .none .fpYb0⟩, ⟨0x42, .none .fpZhdr⟩,
   ⟨0x43, .none .fpZdat⟩]

/-- Opcodes 0x50 to 0x5F (R113). -/
def opcodeMapRetry : List OpcodeRow :=
  [⟨0x50, .none .rtRst⟩, ⟨0x51, .none .rtArm⟩, ⟨0x52, .none .rtOk⟩,
   ⟨0x53, .none .rtFail⟩, ⟨0x54, .none .rtPoll⟩]

/-- The opcode map of R113, row by row. -/
def opcodeMap : List OpcodeRow :=
  opcodeMapSystem ++ opcodeMapChecksum ++ opcodeMapEscape ++ opcodeMapSerializer ++ opcodeMapParser ++ opcodeMapRetry

/-- The word matches the row (R112). -/
abbrev Matches (w : Word) (r : OpcodeRow) : Prop := w &&& formMask r.form = rowMatch r

/-! ## The register map (spec/10_state.md R22 to R47) -/

/-- Access kinds (R22). -/
inductive Access where
  /-- Read and write. -/
  | rw
  /-- Read only. -/
  | ro
  /-- Write only. -/
  | wo
  /-- Write 1 to clear. -/
  | w1c
  deriving DecidableEq, Repr

/-- A row of the register map. -/
structure RegisterRow where
  /-- Byte offset. -/
  off : Nat
  /-- Access. -/
  access : Access
  /-- Value read after reset. -/
  resetValue : Word
  /-- The bits assigned to a field; the others are reserved. -/
  assigned : Word
  deriving DecidableEq, Repr

/-- Rows 0x00 to 0x40 of R22. -/
def registerMapLow : List RegisterRow :=
  [⟨0x00, .wo, 0x00000000, 0x00000000⟩,
   ⟨0x04, .ro, 0x00000000, 0x000000FF⟩,
   ⟨0x08, .w1c, 0x00000000, 0x001F03FE⟩,
   ⟨0x0C, .ro, 0x00000000, 0xFFFFFFFF⟩,
   ⟨0x10, .rw, 0x00000100, 0x00000113⟩,
   ⟨0x14, .rw, 0x010A0000, 0xFFFFFFFF⟩,
   ⟨0x18, .rw, 0x000A0000, 0xFFFFFFFF⟩,
   ⟨0x1C, .rw, 0x00000000, 0x000000FF⟩,
   ⟨0x20, .rw, 0x00000000, 0x0000FFFF⟩,
   ⟨0x24, .rw, 0xFFFFFFFF, 0xFFFFFFFF⟩,
   ⟨0x28, .ro, 0x00000000, 0xFFFFFFFF⟩,
   ⟨0x2C, .ro, 0x00000000, 0x000001FF⟩,
   ⟨0x30, .rw, 0x00000000, 0x00331FFF⟩,
   ⟨0x34, .rw, 0x00000000, 0xFFFFFFFF⟩,
   ⟨0x38, .rw, 0x00000000, 0xFFFFFFFF⟩,
   ⟨0x3C, .rw, 0x00000000, 0xFFFFFFFF⟩,
   ⟨0x40, .rw, 0x00000000, 0xFFFFFFFF⟩]

/-- Rows 0x44 to 0x84 of R22. -/
def registerMapHigh : List RegisterRow :=
  [⟨0x44, .ro, 0x00000000, 0x1F331FFF⟩,
   ⟨0x48, .ro, 0x00000000, 0xFFFFFFFF⟩,
   ⟨0x4C, .ro, 0x00000000, 0xFFFFFFFF⟩,
   ⟨0x50, .ro, 0x00000000, 0xFFFFFFFF⟩,
   ⟨0x54, .ro, 0x00000000, 0xFFFFFFFF⟩,
   ⟨0x58, .ro, 0x00000000, 0x000000FF⟩,
   ⟨0x5C, .ro, 0x00000000, 0xFFFFFFFF⟩,
   ⟨0x60, .ro, 0x00000000, 0xFFFFFFFF⟩,
   ⟨0x64, .ro, 0x00000000, 0xFFFFFFFF⟩,
   ⟨0x68, .ro, 0x00000000, 0xFFFFFFFF⟩,
   ⟨0x6C, .ro, 0x00000000, 0x000000FF⟩,
   ⟨0x70, .ro, 0x00000000, 0x000000FF⟩,
   ⟨0x74, .rw, 0x0000000A, 0x0000FFFF⟩,
   ⟨0x78, .rw, 0x00002710, 0xFFFFFFFF⟩,
   ⟨0x7C, .ro, 0x00000000, 0x0003FFFF⟩,
   ⟨0x80, .ro, 0x00000000, 0xFFFFFFFF⟩,
   ⟨0x84, .ro, 0x00000000, 0xFFFFFFFF⟩]

/-- The register map of R22, row by row. -/
def registerMap : List RegisterRow := registerMapLow ++ registerMapHigh

/-- The row of an offset, if a register stands there. -/
def registerAt (off : Nat) : Option RegisterRow := registerMap.find? (fun r => r.off == off)

/-- The assigned bits at an offset; none at a reserved offset. -/
def assignedBits (off : Nat) : Word :=
  match registerAt off with
  | some r => r.assigned
  | none => 0

/-- The host can write something at the offset (R22). -/
def hostWritable (off : Nat) : Bool :=
  match registerAt off with
  | some r => r.access == .rw || r.access == .w1c
  | none => false

/-- A one-bit field as a number. -/
def flagNumber (b : Bool) : Nat := if b then 1 else 0

/-- `XVAR` as a number (R28). -/
def xvarNumber : XVariant → Nat
  | .checksum => 0
  | .crc => 1
  | .oneK => 2

/-- `ZENC` as a number (R35, R38). -/
def zencNumber : ZEncoding → Nat
  | .hex => 0
  | .bin16 => 1
  | .bin32 => 2

/-- The number a word holds whose fields are given as pairs of lowest bit and value, every other bit 0 (R8). -/
def packedWord (fields : List (Nat × Nat)) : Nat := (fields.map fun f => f.2 * 2 ^ f.1).sum

/-- The fields of the status, configuration, checksum and escape registers, offsets 0x00 to 0x2C, each as its
lowest bit and its value (R24 to R34). -/
def registerFieldsLow (s : State) : Nat → List (Nat × Nat)
  | 0x04 => [(0, (codeNumber s.result).toNat)]
  | 0x08 => [(0, s.errflags.toNat)]
  | 0x0C => [(0, s.errinfo.toNat)]
  | 0x10 => [(0, xvarNumber s.cfg.xvar), (4, flagNumber s.cfg.zcrcw), (8, flagNumber s.cfg.crctx)]
  | 0x14 => [(0, s.escmapLo.toNat)]
  | 0x18 => [(0, s.escmapHi.toNat)]
  | 0x1C => [(0, s.ck8.toNat)]
  | 0x20 => [(0, s.crc16.toNat)]
  | 0x24 => [(0, s.crc32Raw.toNat)]
  | 0x28 => [(0, (s.crc32Raw ^^^ 0xFFFFFFFF).toNat)]
  | 0x2C => [(0, s.zstate.zeLast.toNat), (8, flagNumber s.zstate.zdPend)]
  | _ => []

/-- The fields of the serializer and parser registers, offsets 0x30 to 0x60 (R35 to R41). -/
def registerFieldsCodec (s : State) : Nat → List (Nat × Nat)
  | 0x30 => [(0, s.txDesc.blk.toNat), (8, s.txDesc.ztype.toNat), (16, zencNumber s.txDesc.zenc),
             (20, s.txDesc.zend.toNat)]
  | 0x34 => [(0, s.txZhdr.toNat)]
  | 0x38 => [(0, s.txYsize.toNat)]
  | 0x3C => [(0, s.txYmtime.toNat)]
  | 0x40 => [(0, s.txYmode.toNat)]
  | 0x44 => [(0, s.rxDesc.blk.toNat), (8, s.rxDesc.ztype.toNat), (16, zencNumber s.rxDesc.zenc),
             (20, s.rxDesc.zend.toNat), (24, flagNumber s.rxDesc.yeob), (25, flagNumber s.rxDesc.ysizeP),
             (26, flagNumber s.rxDesc.ymtimeP), (27, flagNumber s.rxDesc.ymodeP), (28, flagNumber s.rxDesc.yovf)]
  | 0x48 => [(0, s.rxZhdr.toNat)]
  | 0x4C => [(0, s.rxYsize.toNat)]
  | 0x50 => [(0, s.rxYmtime.toNat)]
  | 0x54 => [(0, s.rxYmode.toNat)]
  | 0x58 => [(0, s.rxYnlen.toNat)]
  | 0x5C => [(0, s.rxCrcCalc.toNat)]
  | 0x60 => [(0, s.rxCrcRcvd.toNat)]
  | _ => []

/-- The fields of the buffer views and the data and retry registers, offsets 0x64 to 0x84 (R42 to R47). -/
def registerFieldsHigh (s : State) : Nat → List (Nat × Nat)
  | 0x64 => [(0, s.ibuf.length), (16, s.obuf.length)]
  | 0x68 => [(0, s.txp.length), (16, s.rxp.length)]
  | 0x6C => [(0, s.odata.toNat)]
  | 0x70 => [(0, s.rdata.toNat)]
  | 0x74 => [(0, s.rtMax.toNat)]
  | 0x78 => [(0, s.rtTmo.toNat)]
  | 0x7C => [(0, s.rtStat.cnt.toNat), (16, flagNumber s.rtStat.armed), (17, flagNumber s.rtStat.exh)]
  | 0x80 => [(0, s.rtDl.toNat % 2 ^ 32)]
  | 0x84 => [(0, s.rtDl.toNat / 2 ^ 32)]
  | _ => []

/-- The fields of the register at an offset; none for `CMD` and the reserved offsets (R22, R81). -/
def registerFields (s : State) (off : Nat) : List (Nat × Nat) :=
  registerFieldsLow s off ++ registerFieldsCodec s off ++ registerFieldsHigh s off

/-- A two-bit field at bit `lo` after a write: 3 is reserved and keeps the old value (R23). -/
def twoBitWrite (lo : Nat) (v old : Word) : Word :=
  let mask : Word := 3#32 <<< lo
  if v &&& mask = mask then old &&& mask else v &&& mask

/-- The word a register reads after the host wrote `v` while it read `old` (R82, R23, R26, R28, R29, R35). -/
def writtenWord (off : Nat) (v old : Word) : Word :=
  if hostWritable off = false then old
  else if off = 0x08 then old &&& ~~~v
  else if off = 0x10 then (v &&& 0x110) ||| twoBitWrite 0 v old
  else if off = 0x14 then v ||| 0x01000000
  else if off = 0x30 then (v &&& 0x00301FFF) ||| twoBitWrite 16 v old
  else v &&& assignedBits off

/-! ## What each command can do (R272, and the registers' own rules) -/

/-- The codes other than `Ok` a command can end in, once decoded (spec/60_exceptions.md R272). -/
def otherCodes : Instr → List ResultCode
  | .nop | .srst | .ibClr | .ibDrop _ | .ibHunt | .obClr | .tpClr | .rpClr => []
  | .ibPush _ | .obPush _ | .tpPush _ => [.bufferFull]
  | .obPop | .rpPop => [.bufferEmpty]
  | .ck8Init | .ck8Upd _ | .ck8Buf | .c16Init | .c16Upd _ | .c16Buf | .c32Init | .c32Upd _ | .c32Buf => []
  | .zeRst | .zdRst => []
  | .zePut _ | .zeBuf => [.bufferFull]
  | .zdPut _ => [.invalidEscape, .bufferFull]
  | .zdEnd => [.invalidEscape]
  | .zdBuf => [.invalidEscape, .bufferFull]
  | .fsXblk => [.overrun, .bufferFull]
  | .fsYb0 => [.illegalCommand, .overrun, .bufferFull]
  | .fsYeob | .fsZdat => [.bufferFull]
  | .fsZhdr => [.invalidFrameType, .bufferFull]
  | .fpXblk => [.incomplete, .invalidBlockHeader, .complementMismatch, .checksumMismatch, .crcMismatch]
  | .fpYb0 => [.incomplete, .invalidBlockHeader, .complementMismatch, .crcMismatch]
  | .fpZhdr => [.incomplete, .invalidFrameEncoding, .invalidEscape, .crcMismatch, .invalidFrameType]
  | .fpZdat => [.incomplete, .invalidEscape, .overrun, .crcMismatch]
  | .rtRst => []
  | .rtArm | .rtOk | .rtFail => [.maxRetriesExceeded]
  | .rtPoll => [.timeout, .maxRetriesExceeded]

/-- A parser command. -/
def isParser : Instr → Bool
  | .fpXblk | .fpYb0 | .fpZhdr | .fpZdat => true
  | _ => false

/-- A command of the retry timeout counter. -/
def isRetry : Instr → Bool
  | .rtRst | .rtArm | .rtOk | .rtFail | .rtPoll => true
  | _ => false

/-- The offsets of the registers a command other than `SRST` can change, beside `RESULT`, `ERRFLAGS` and
`ERRINFO` (the "written by" clauses of R30 to R47, and R144, R190, R220, R222 to R233, R251 to R256; a view
changes with what it shows, R33, R42). -/
def ownRegisters : Instr → List Nat
  | .nop | .srst | .zdEnd => []
  | .ibPush _ | .ibClr | .ibDrop _ | .ibHunt | .obClr => [0x64]
  | .obPush _ | .zePut _ | .zeBuf | .fsXblk | .fsYb0 | .fsYeob | .fsZhdr | .fsZdat => [0x2C, 0x64]
  | .obPop => [0x64, 0x6C]
  | .tpPush _ | .tpClr | .rpClr => [0x68]
  | .rpPop => [0x68, 0x70]
  | .ck8Init | .ck8Upd _ | .ck8Buf => [0x1C]
  | .c16Init | .c16Upd _ | .c16Buf => [0x20]
  | .c32Init | .c32Upd _ | .c32Buf => [0x24, 0x28]
  | .zeRst | .zdRst => [0x2C]
  | .zdPut _ => [0x2C, 0x68]
  | .zdBuf => [0x64, 0x68]
  | .fpXblk | .fpZdat => [0x44, 0x5C, 0x60, 0x64, 0x68]
  | .fpYb0 => [0x44, 0x4C, 0x50, 0x54, 0x58, 0x5C, 0x60, 0x64, 0x68]
  | .fpZhdr => [0x44, 0x48, 0x5C, 0x60, 0x64]
  | .rtRst | .rtArm => [0x7C, 0x80, 0x84]
  | .rtOk | .rtFail | .rtPoll => [0x7C]

/-- The commands other than `SRST` that can change `IBUF` (R60). -/
def changesIbuf : Instr → Bool
  | .ibPush _ | .ibClr | .ibDrop _ | .ibHunt | .zdBuf | .fpXblk | .fpYb0 | .fpZhdr | .fpZdat => true
  | _ => false

/-- The commands that append to `OBUF` (R61). -/
def emits : Instr → Bool
  | .obPush _ | .zePut _ | .zeBuf | .fsXblk | .fsYb0 | .fsYeob | .fsZhdr | .fsZdat => true
  | _ => false

/-- The commands other than `SRST` that can change `OBUF` (R61). -/
def changesObuf (i : Instr) : Bool := emits i || i == .obPop || i == .obClr

/-- The commands other than `SRST` that can change `TXP` (R62). -/
def changesTxp : Instr → Bool
  | .tpPush _ | .tpClr => true
  | _ => false

/-- The commands other than `SRST` that can change `RXP` (R63). -/
def changesRxp : Instr → Bool
  | .rpPop | .rpClr | .zdPut _ | .zdBuf | .fpXblk | .fpYb0 | .fpZdat => true
  | _ => false

/-- The commands other than `SRST` that can change `ZD_PEND` (R34). -/
def changesZdPend : Instr → Bool
  | .zdPut _ | .zdRst => true
  | _ => false

/-! ## Wire shapes -/

/-- The wire bytes `w` stand for the logical bytes `d`: a byte other than the introducer stands for itself, the
introducer with a byte of the valid escape set for that byte XOR 0x40 (R177). -/
inductive EscapedAs : List Byte → List Byte → Prop where
  /-- Nothing stands for nothing. -/
  | nil : EscapedAs [] []
  /-- A byte copied unchanged. -/
  | plain (b : Byte) (w d : List Byte) : b ≠ 0x18 → EscapedAs w d → EscapedAs (b :: w) (b :: d)
  /-- An escape sequence. -/
  | escape (c : Byte) (w d : List Byte) :
      c &&& 0x60 = 0x40 → EscapedAs w d → EscapedAs (0x18 :: c :: w) ((c ^^^ 0x40) :: d)

/-- The sixteen hex digits, lowercase (R204, R229). -/
def hexDigits : List Byte :=
  [0x30, 0x31, 0x32, 0x33, 0x34, 0x35, 0x36, 0x37] ++ [0x38, 0x39, 0x61, 0x62, 0x63, 0x64, 0x65, 0x66]

/-- The two hex digits of each byte, high nibble first (R88, R204). -/
def hexWire : List Byte → List Byte
  | [] => []
  | b :: d => hexDigits.getD (b.toNat / 16) 0 :: hexDigits.getD (b.toNat % 16) 0 :: hexWire d

/-- Bytes as one number, most significant byte first (R88). -/
def bigEndian : List Byte → Nat
  | [] => 0
  | b :: d => b.toNat * 256 ^ d.length + bigEndian d

/-- Bytes as one number, least significant byte first (R88). -/
def littleEndian : List Byte → Nat
  | [] => 0
  | b :: d => b.toNat + 256 * littleEndian d

/-- The sum of the bytes (R151). -/
def byteSum (d : List Byte) : Nat := (d.map BitVec.toNat).sum

/-- A digit of a base, as ASCII (R227). -/
abbrev Digit (base : Nat) (b : Byte) : Prop := 0x30 ≤ b.toNat ∧ b.toNat < 0x30 + base

/-- The number that digits write in a base, most significant first (R198, R227). -/
def textNumber (base : Nat) : List Byte → Nat
  | [] => 0
  | b :: d => (b.toNat - 0x30) * base ^ d.length + textNumber base d

/-- A run of digits that cannot be made longer: `run` is not empty, all digits, and what follows it does not
start with a digit (R227). -/
abbrev WholeRun (base : Nat) (run tail : List Byte) : Prop :=
  run ≠ [] ∧ (∀ b ∈ run, Digit base b) ∧ (∀ b ∈ tail.head?, ¬ Digit base b)

/-- Another octal number follows: one space and an octal digit (R227). -/
abbrev OctalFollows (tail : List Byte) : Prop :=
  tail.head? = some 0x20 ∧ ∃ b ∈ tail.tail.head?, Digit 8 b

/-- The parameters of an Xmodem variant (R192): marker, payload size, trailer length. -/
def variantShape : XVariant → Byte × Nat × Nat
  | .checksum => (0x01, 128, 1)
  | .crc => (0x01, 128, 2)
  | .oneK => (0x02, 1024, 2)

/-- The check value over a payload of a variant: the sum of the payload modulo 256, or its CRC-16 (R192). -/
def variantCheck (v : XVariant) (p : List Byte) : Nat :=
  match v with
  | .checksum => byteSum p % 256
  | .crc | .oneK => (crc16 p 0x0000).toNat

/-- The code of a failed comparison of a variant (R221). -/
def variantMismatch : XVariant → ResultCode
  | .checksum => .checksumMismatch
  | .crc | .oneK => .crcMismatch

/-! ## Counted failures (spec/45_retry_timeout.md R256, R257) -/

/-- One failed attempt: a corrupt response the host reports, or a wait that expires. -/
inductive Failure where
  /-- `RT.FAIL`. -/
  | corrupt
  /-- `RT.ARM` at one time and `RT.POLL` at another. -/
  | expiry (armedAt polledAt : Time)
  deriving DecidableEq, Repr

/-- The wait really expires: the poll comes no earlier than the deadline, and the deadline is below 2^64. -/
def failureReal (tmo : Word) : Failure → Prop
  | .corrupt => True
  | .expiry a p => a.toNat + tmo.toNat ≤ p.toNat

/-- The commands of one failed attempt. -/
def countFailure (f : Failure) (s : State) : Result :=
  match f with
  | .corrupt => exec .rtFail s
  | .expiry a p =>
    match exec .rtArm { s with now := a } with
    | .next t => exec .rtPoll { t with now := p }
    | .fault e => .fault e
    | .refused r => .refused r

/-- Failed attempts one after the other. -/
def countFailures : List Failure → State → Result
  | [], s => .next s
  | f :: fs, s =>
    match countFailure f s with
    | .next t => countFailures fs t
    | .fault e => .fault e
    | .refused r => .refused r

/-- What the last attempt reports while budget remains (R254, R255). -/
def failureReport : Failure → ResultCode
  | .corrupt => .ok
  | .expiry _ _ => .timeout

/-- The outcome codes of `RT.POLL` issued at the given times, one after the other. -/
def pollOutcomes : List Time → State → List ResultCode
  | [], _ => []
  | t :: ts, s =>
    match exec .rtPoll { s with now := t } with
    | .next u => u.result :: pollOutcomes ts u
    | .fault _ => []
    | .refused _ => []

end Sys2Proof.Machine
end

