-- ==== Sys2Proof/Certificates/Slice0/Obligations.lean ====
section
/-! DEFINITION. The statements for the provers, one definition each, in the order of OBLIGATIONS.json. -/

open Sys2Proof Sys2Proof.Machine

/-- Rests on spec/30_encoding.md sections 1 and 2 (formats and opcode map). For every well-formed command, with
every operand value its encoding admits, decode (encode i) is i. -/
def Obligations.DecodeEncodeRoundTrip : Prop :=
  ∀ i : Instr, i.wellFormed = true → decode (encode i) = .ok i

/-- Rests on spec/30_encoding.md sections 1 and 2 (formats and opcode map). If a word decodes to i, then i is
well formed and its encoding is that word, so ERRINFO, which the model writes as encode i, holds the word
the host wrote. -/
def Obligations.DecodedWordIsItsEncoding : Prop :=
  ∀ (w : Word) (i : Instr), decode w = .ok i → i.wellFormed = true ∧ encode i = w

/-- Formalises R112. The map has 43 rows with different opcodes. For a word whose opcode is that of a row: if w
AND mask is the row's match value, the word decodes to the row's command with operand IMM8 = w[7:0] or IMM16
= w[15:0]; otherwise it is illegal by name. A word whose opcode is in no row is illegal by name. -/
def Obligations.DecoderFollowsOpcodeMap : Prop :=
  opcodeMap.length = 43
  ∧ (opcodeMap.map OpcodeRow.op).Nodup
  ∧ (∀ (w : Word), ∀ r ∈ opcodeMap, (w >>> 24).setWidth 8 = r.op →
      (Matches w r → decode w = .ok (formCommand w r.form))
      ∧ (¬ Matches w r → decode w = .error .nonzeroZeroField))
  ∧ (∀ w : Word, (∀ r ∈ opcodeMap, (w >>> 24).setWidth 8 ≠ r.op) → decode w = .error .unassignedOpcode)

/-- Rests on spec/30_encoding.md section 2 (opcode map); spec/95_test_vectors.md V1.13 to V1.15. One word of
each family and each format, written from R111 and R113, decodes to the command it stands for, and words
with a 1 in a zero field or an unassigned opcode do not decode. -/
def Obligations.SpecWordsDecode : Prop :=
  decode 0x00000000 = .ok .nop ∧ decode 0x02000041 = .ok (.ibPush 0x41)
  ∧ decode 0x04001388 = .ok (.ibDrop 5000) ∧ decode 0x140000C3 = .ok (.c16Upd 0xC3)
  ∧ decode 0x18000000 = .ok .c32Buf ∧ decode 0x25000058 = .ok (.zdPut 0x58)
  ∧ decode 0x33000000 = .ok .fsZhdr ∧ decode 0x43000000 = .ok .fpZdat ∧ decode 0x54000000 = .ok .rtPoll
  ∧ decode 0x00000001 = .error .nonzeroZeroField ∧ decode 0x04010000 = .error .nonzeroZeroField
  ∧ decode 0x0D000000 = .error .unassignedOpcode ∧ decode 0xFF000000 = .error .unassignedOpcode

/-- Rests on spec/10_state.md section 2 (CMD); spec/20_memory.md section 5 (ordering). When the oldest pending
host action is an aligned 32-bit write to offset 0 of a word that decodes to i, the step is exec of i at the
state with that action taken off the list and now at the action's time. The list of pending actions and now
are the model's own (log entries 1 and 2). -/
def Obligations.StepRunsDecodedCommand : Prop :=
  ∀ (s : State) (t : Time) (w : Word) (rest : List HostAction) (i : Instr),
    s.pending = { time := t, event := .write 0x00 4 w } :: rest → decode w = .ok i →
    step s = exec i { s with now := t, pending := rest }

/-- Rests on spec/30_encoding.md section 3 (reserved and illegal words); spec/60_exceptions.md section 2. A host
write to CMD of a word that matches no row of the opcode map (an unassigned opcode, or a 1 in a zero field)
ends the command with IllegalCommand: RESULT, ERRFLAGS and ERRINFO are written and nothing else changes.
That the step takes the action off the list and sets now to its time is the model's choice (log entries 1
and 2), no part of the rule. -/
def Obligations.UndecodableWordEndsIllegalCommand : Prop :=
  ∀ (s : State) (t : Time) (w : Word) (rest : List HostAction),
    s.pending = { time := t, event := .write 0x00 4 w } :: rest →
    (∀ r ∈ opcodeMap, ¬ Matches w r) →
    step s = .next (ended .illegalCommand w { s with now := t, pending := rest })

/-- Rests on spec/20_memory.md section 1 (RegRead) and section 2 (side effects); spec/10_state.md sections 2 to
9 (the registers and their fields). A step on an accepted read answers a next state that differs only in the
model's own now, pending and readData (log entries 1 to 3); readData holds regRead of the offset. A read of
CMD or of a reserved offset answers 0. In every state of the invariant the word read at each offset is the
sum of the register's fields, each at its lowest bit, as the bit tables of the register rules place them
(registerFields, a table written from them): views computed from the current state, the lengths of IBUF and
TXP below those of OBUF and RXP, the low half of the deadline at 0x80 and the high half at 0x84. -/
def Obligations.RegisterReadHasNoSideEffect : Prop :=
  ∀ (s : State) (t : Time) (off : Nat) (rest : List HostAction),
    s.pending = { time := t, event := .read off 4 } :: rest → off % 4 = 0 → off ≤ 0xFC →
    step s = .next { s with now := t, pending := rest, readData := regRead off s }
    ∧ (off = 0x00 ∨ 0x88 ≤ off → regRead off s = 0)
    ∧ (s.Inv → (regRead off s).toNat = packedWord (registerFields s off))

/-- Rests on spec/20_memory.md section 1 (RegWrite); spec/10_state.md sections 1 to 9 (access kinds, reserved
bits, register fields). An accepted write at CMD runs the command. At any other offset the register then
reads the written word by the rule of its row (fields take their bits, a reserved field value or bit 24 of
ESCMAP_LO keeps, ERRFLAGS is write-1-to-clear, read-only and reserved offsets keep), and every other
register (but the view CRC32_OUT of CRC32_RAW), every buffer and RESULT, ERRINFO read as before. That the
action leaves the list of pending actions, sets now to its time and keeps readData is the model's choice
(log entries 1, 2 and 3), no part of the rule. -/
def Obligations.RegisterWriteRule : Prop :=
  ∀ (s : State) (t : Time) (off : Nat) (v : Word) (rest : List HostAction),
    s.pending = { time := t, event := .write off 4 v } :: rest → off % 4 = 0 → off ≤ 0xFC →
    (off = 0x00 → ∀ i, decode v = .ok i → step s = exec i { s with now := t, pending := rest })
    ∧ (off ≠ 0x00 → ∃ u, step s = .next u
        ∧ regRead off u = writtenWord off v (regRead off s)
        ∧ (∀ other, other ≠ off → ¬ (off = 0x24 ∧ other = 0x28) → regRead other u = regRead other s)
        ∧ u.ibuf = s.ibuf ∧ u.obuf = s.obuf ∧ u.txp = s.txp ∧ u.rxp = s.rxp
        ∧ u.now = t ∧ u.pending = rest ∧ u.readData = s.readData)

/-- Formalises R23. At every offset a reserved bit reads 0 and writing it has no effect (for ERRFLAGS in a state
of the invariant, which keeps its reserved bits 0); a write to a read-only register or a reserved offset
changes no state; a write of the reserved value 3 to XVAR or ZENC leaves that field unchanged and writes the
other fields; no register access writes RESULT. -/
def Obligations.ReservedBitsAndReadOnlyRegisters : Prop :=
  ∀ (s : State) (off : Nat) (v : Word),
    regRead off s &&& ~~~(assignedBits off) = 0
    ∧ (hostWritable off = false → regWrite off v s = s)
    ∧ (s.Inv → regWrite off v s = regWrite off (v &&& assignedBits off) s)
    ∧ (v.extractLsb' 0 2 = 3 → regWrite 0x10 v s =
        { s with cfg := { xvar := s.cfg.xvar, zcrcw := v.getLsbD 4, crctx := v.getLsbD 8 } })
    ∧ (v.extractLsb' 16 2 = 3 → regWrite 0x30 v s =
        { s with txDesc := { blk := v.extractLsb' 0 8, ztype := v.extractLsb' 8 5, zenc := s.txDesc.zenc,
                             zend := v.extractLsb' 20 2 } })
    ∧ (regWrite off v s).result = s.result

/-- Formalises R83. A step on a bus read or write of n bytes at an offset is refused by name if the access is
not 4 bytes wide, not aligned or outside 0x00..0xFC, and otherwise answers a next state. The list the access
stands in is the model's own (log entry 1). -/
def Obligations.UnacceptedAccessIsRefused : Prop :=
  ∀ (s : State) (t : Time) (off n : Nat) (v : Word) (rest : List HostAction),
    (s.pending = { time := t, event := .read off n } :: rest
      ∨ s.pending = { time := t, event := .write off n v } :: rest) →
    (¬ (n = 4 ∧ off % 4 = 0 ∧ off ≤ 0xFC) → step s = .refused .unacceptedAccess)
    ∧ (n = 4 ∧ off % 4 = 0 ∧ off ≤ 0xFC → ∃ u, step s = .next u)

/-- Rests on spec/20_memory.md section 4 (address map). BASE is a multiple of 256 (its value is open); the bus
address BASE + off has the offset off for every off below 256, and every other address is outside the
window. -/
def Obligations.WindowAddresses : Prop :=
  256 ∣ Config.base
  ∧ (∀ off, off < 256 → windowOffset (Config.base + off) = some off)
  ∧ (∀ addr, addr < Config.base ∨ Config.base + 256 ≤ addr → windowOffset addr = none)

/-- Formalises R65. At State.reset every register of the map reads the value of its reset column, every reserved
offset reads 0, and the four buffers are empty. -/
def Obligations.ResetRegisterValues : Prop :=
  (∀ r ∈ registerMap, regRead r.off State.reset = r.resetValue)
  ∧ registerMap.length = 34
  ∧ (∀ off, registerAt off = none → regRead off State.reset = 0)
  ∧ State.reset.ibuf = [] ∧ State.reset.obuf = [] ∧ State.reset.txp = [] ∧ State.reset.rxp = []

/-- Rests on spec/40_system_buffers.md System commands; spec/70_reset_and_hazards.md section 1;
spec/60_exceptions.md section 4. SRST completes from every state in the reset state of the block, the same
state the platform's reset gives (the model's now, pending and readData, which are not the block's, stay or
are the action's, log entries 1, 2 and 4); NOP completes from every state, sets RESULT to Ok and changes
nothing else; with no pending host action a step changes nothing (log entry 1). -/
def Obligations.SrstIsResetAndNopOnlyReports : Prop :=
  (∀ s : State, exec .srst s =
      .next { State.reset with now := s.now, pending := s.pending, readData := s.readData })
  ∧ (∀ (s : State) (t : Time) (rest : List HostAction),
      s.pending = { time := t, event := .reset } :: rest →
      step s = .next { State.reset with now := t, pending := rest, readData := s.readData })
  ∧ (∀ s : State, exec .nop s = .next (endedOk s))
  ∧ (∀ s : State, s.pending = [] → step s = .next s)

/-- Formalises R273. For every command and every state exec answers a next state t. If t.result is not Ok, the
sticky flag of that code is set, no flag is cleared, and ERRINFO is the command word, any word that decodes
to the command; if it is Ok, ERRFLAGS and ERRINFO are unchanged, but for SRST, after which the three
registers are 0. The number of a code is that of ResultCodeNumbersAndClasses. -/
def Obligations.EveryCommandEndsWithStatusUpdate : Prop :=
  ∀ (i : Instr) (s : State), ∃ t, exec i s = .next t
    ∧ (t.result ≠ .ok →
        t.errflags = s.errflags ||| (1#32 <<< (codeNumber t.result).toNat)
        ∧ ∀ w : Word, decode w = .ok i → t.errinfo = w)
    ∧ (t.result = .ok → i ≠ .srst → t.errflags = s.errflags ∧ t.errinfo = s.errinfo)
    ∧ (i = .srst → t.result = .ok ∧ t.errflags = 0 ∧ t.errinfo = 0)

/-- Rests on spec/60_exceptions.md section 1 (which command can end in which code). If exec of a command answers
a next state, its RESULT is Ok or one of the codes R272 lists for that command. -/
def Obligations.OutcomeCodesOfEachCommand : Prop :=
  ∀ (i : Instr) (s t : State), exec i s = .next t → t.result = .ok ∨ t.result ∈ otherCodes i

/-- Formalises R274. If a command ends in a code of class fault, the state differs from before only in RESULT,
ERRFLAGS, ERRINFO and, for a parser command that reached its comparison, RX_CRC_CALC and RX_CRC_RCVD; if it
ends Timeout or MaxRetriesExceeded, it differs only in RESULT, ERRFLAGS, ERRINFO and RT_STAT. The class of a
code is that of ResultCodeNumbersAndClasses. -/
def Obligations.FaultsArePrecise : Prop :=
  ∀ (i : Instr) (s t : State), exec i s = .next t →
    (codeIsFault t.result = true →
      t = { s with result := t.result, errflags := t.errflags, errinfo := t.errinfo,
                   rxCrcCalc := t.rxCrcCalc, rxCrcRcvd := t.rxCrcRcvd }
      ∧ (isParser i = false ∨ t.result ∈ [.incomplete, .complementMismatch, .invalidFrameEncoding,
            .invalidEscape, .overrun] →
          t.rxCrcCalc = s.rxCrcCalc ∧ t.rxCrcRcvd = s.rxCrcRcvd))
    ∧ (t.result = .timeout ∨ t.result = .maxRetriesExceeded →
      t = { s with result := t.result, errflags := t.errflags, errinfo := t.errinfo, rtStat := t.rtStat })

/-- Rests on spec/10_state.md sections 2 to 9; spec/40_system_buffers.md to spec/45_retry_timeout.md (each
command's own rule). Every command other than SRST leaves every register as it reads, but RESULT, ERRFLAGS,
ERRINFO and the registers its own rule writes (a table of offsets per command, from the "written by"
clauses); of ZSTATE only the emitting commands and ZE.RST change ZE_LAST and only ZD.PUT and ZD.RST change
ZD_PEND. -/
def Obligations.CommandsChangeOnlyTheirRegisters : Prop :=
  ∀ (i : Instr) (s t : State), exec i s = .next t → i ≠ .srst →
    (∀ off, off ∉ [0x04, 0x08, 0x0C] → off ∉ ownRegisters i → regRead off t = regRead off s)
    ∧ (changesZdPend i = false → t.zstate.zdPend = s.zstate.zdPend)
    ∧ (emits i = false → i ≠ .zeRst → t.zstate.zeLast = s.zstate.zeLast)

/-- Rests on spec/10_state.md section 10 (buffers); spec/20_memory.md section 2 (buffer bounds). Every command
other than SRST leaves each buffer unchanged unless the buffer's rule names the command, the parser commands
and ZD.BUF only ever remove bytes from the front of IBUF, commands that emit only append to OBUF; no
command, SRST included, changes now, pending or readData (the model's own fields, log entries 1 to 4). -/
def Obligations.CommandsChangeOnlyTheirBuffers : Prop :=
  ∀ (i : Instr) (s t : State), exec i s = .next t →
    (i ≠ .srst →
      (changesIbuf i = false → t.ibuf = s.ibuf) ∧ (changesObuf i = false → t.obuf = s.obuf)
      ∧ (changesTxp i = false → t.txp = s.txp) ∧ (changesRxp i = false → t.rxp = s.rxp)
      ∧ (isParser i = true ∨ i = .zdBuf → t.ibuf <:+ s.ibuf)
      ∧ (emits i = true → s.obuf <+: t.obuf))
    ∧ t.now = s.now ∧ t.pending = s.pending ∧ t.readData = s.readData

/-- Rests on spec/10_state.md sections 10 to 12. State.reset satisfies the invariant State.Inv. -/
def Obligations.ResetSatisfiesInvariant : Prop :=
  State.reset.Inv

/-- Rests on spec/20_memory.md section 2 (buffer bounds); spec/10_state.md sections 2, 3, 7, 10;
spec/45_retry_timeout.md Overview (bump); spec/44_parser.md Ymodem block 0. From every state that satisfies
the invariant (buffers within capacity, reserved ERRFLAGS bits 0, the introducer's escape bit 1, an assigned
received frame type, nested Ymodem flags, a retry counter that cannot overflow and is not armed once
exhausted), a step that answers a next state gives one that satisfies it. -/
def Obligations.StepKeepsInvariant : Prop :=
  ∀ s t : State, s.Inv → step s = .next t → t.Inv

/-- Rests on spec/60_exceptions.md section 2 (nesting: a failing command never blocks later commands);
spec/20_memory.md section 2. If every pending action is an aligned 32-bit access inside the window or a
reset, any number of steps answers a next state: no command, however it ends, stops the block. -/
def Obligations.AcceptedHostNeverStopsTheMachine : Prop :=
  ∀ s : State, HostOk s → ∀ k : Nat, ∃ t, Sys2Proof.core.run k s = .next t

/-- Rests on spec/60_exceptions.md section 2 (all other units keep working regardless); spec/45_retry_timeout.md
Overview (read only by RT.ARM and RT.POLL). For every command that is no retry command and not SRST, running
it with other contents of RT_CFG, RT_TMO, RT_STAT and RT_DL gives the same outcome with those contents kept;
for every command but RT.ARM and RT.POLL the same holds of the time input now. -/
def Obligations.RetryStateAndTimeAreIndependent : Prop :=
  (∀ (i : Instr) (s : State) (mx : Half) (tmo : Word) (r : RtStat) (dl : Time),
      isRetry i = false → i ≠ .srst →
      exec i { s with rtMax := mx, rtTmo := tmo, rtStat := r, rtDl := dl }
        = mapNext (fun t => { t with rtMax := mx, rtTmo := tmo, rtStat := r, rtDl := dl }) (exec i s))
  ∧ (∀ (i : Instr) (s : State) (n : Time), i ≠ .rtArm → i ≠ .rtPoll →
      exec i { s with now := n } = mapNext (fun t => { t with now := n }) (exec i s))

/-- Rests on spec/44_parser.md Template and common behaviour; spec/41_checksum.md introduction. For every parser
command and every IBUF and CFG there are a result code, an IBUF left, a received payload or none, and for
each register offset a mask of kept bits and a word, such that from every state with that IBUF and CFG,
whatever its other registers, buffers and the time hold, the command ends with that code and that IBUF, RXP
is the payload or, with none, as before, and each register reads its old value under the mask or the word;
OBUF and TXP stay. And running it with other contents of ESCMAP, ZSTATE, CK8, CRC16, CRC32_RAW, TXP and OBUF
gives the same outcome with those contents kept. -/
def Obligations.ParserReadsOnlyItsInputs : Prop :=
  (∀ (i : Instr) (w : List Byte) (g : Cfg), isParser i = true →
    ∃ (c : ResultCode) (left : List Byte) (got : Option (List Byte)) (keep val : Nat → Word),
      ∀ s : State, s.ibuf = w → s.cfg = g →
        ∃ t, exec i s = .next t ∧ t.result = c ∧ t.ibuf = left ∧ t.rxp = got.getD s.rxp
          ∧ t.obuf = s.obuf ∧ t.txp = s.txp
          ∧ ∀ off, regRead off t = regRead off s &&& keep off ||| val off)
  ∧ (∀ (i : Instr) (s : State) (lo hi raw : Word) (z : ZState) (k : Byte) (c : Half) (x o : List Byte),
    isParser i = true →
    exec i { s with escmapLo := lo, escmapHi := hi, zstate := z, ck8 := k, crc16 := c, crc32Raw := raw,
                    txp := x, obuf := o }
      = mapNext (fun t => { t with escmapLo := lo, escmapHi := hi, zstate := z, ck8 := k, crc16 := c,
                                   crc32Raw := raw, txp := x, obuf := o }) (exec i s))

/-- Formalises R133, R134, R135. The words of IB.PUSH, IB.CLR and IB.DROP decode; IB.PUSH appends its byte to
IBUF and ends Ok unless IBUF holds 4096 bytes, when it ends BufferFull; IB.CLR empties IBUF; IB.DROP n
removes the first min(n, len) bytes; nothing else changes. -/
def Obligations.InputBufferPushClearDrop : Prop :=
  (∀ (b : Byte) (s : State),
    decode (0x02000000 ||| b.setWidth 32) = .ok (.ibPush b)
    ∧ (s.ibuf.length ≠ 4096 → exec (.ibPush b) s = .next (endedOk { s with ibuf := s.ibuf ++ [b] }))
    ∧ (s.ibuf.length = 4096 →
        exec (.ibPush b) s = .next (ended .bufferFull (0x02000000 ||| b.setWidth 32) s)))
  ∧ (∀ s : State, decode 0x03000000 = .ok .ibClr ∧ exec .ibClr s = .next (endedOk { s with ibuf := [] }))
  ∧ (∀ (n : Nat) (s : State), n < 65536 →
    decode (0x04000000 ||| BitVec.ofNat 32 n) = .ok (.ibDrop n)
    ∧ exec (.ibDrop n) s = .next (endedOk { s with ibuf := s.ibuf.drop (min n s.ibuf.length) }))

/-- Formalises R136. The word of IB.HUNT decodes; if k is the smallest index with IBUF[k] = 0x2A, IB.HUNT ends
Ok with the first k bytes removed; if no byte is 0x2A, IBUF becomes empty; nothing else changes. -/
def Obligations.HuntDropsUpToFirstPad : Prop :=
  ∀ s : State, decode 0x05000000 = .ok .ibHunt
    ∧ (∀ k : Nat, s.ibuf[k]? = some 0x2A → (∀ j < k, s.ibuf[j]? ≠ some 0x2A) →
        exec .ibHunt s = .next (endedOk { s with ibuf := s.ibuf.drop k }))
    ∧ (0x2A ∉ s.ibuf → exec .ibHunt s = .next (endedOk { s with ibuf := [] }))

/-- Formalises R137, R138, R139, R140. TP.PUSH appends its byte to TXP and ends Ok unless TXP holds 1024 bytes,
when it ends BufferFull; TP.CLR and RP.CLR empty their buffer; RP.POP moves the front byte of RXP to RDATA,
and on an empty RXP ends BufferEmpty with RDATA unchanged; nothing else changes. -/
def Obligations.PayloadBufferCommands : Prop :=
  (∀ (b : Byte) (s : State),
    decode (0x09000000 ||| b.setWidth 32) = .ok (.tpPush b)
    ∧ (s.txp.length ≠ 1024 → exec (.tpPush b) s = .next (endedOk { s with txp := s.txp ++ [b] }))
    ∧ (s.txp.length = 1024 →
        exec (.tpPush b) s = .next (ended .bufferFull (0x09000000 ||| b.setWidth 32) s)))
  ∧ (∀ s : State, decode 0x0A000000 = .ok .tpClr ∧ exec .tpClr s = .next (endedOk { s with txp := [] }))
  ∧ (∀ s : State, decode 0x0B000000 = .ok .rpPop
    ∧ (s.rxp = [] → exec .rpPop s = .next (ended .bufferEmpty 0x0B000000 s))
    ∧ (∀ b rest, s.rxp = b :: rest → exec .rpPop s = .next (endedOk { s with rdata := b, rxp := rest })))
  ∧ (∀ s : State, decode 0x0C000000 = .ok .rpClr ∧ exec .rpClr s = .next (endedOk { s with rxp := [] }))

/-- Formalises R141, R142, R143. OB.PUSH appends its byte unescaped to OBUF and sets ZE_LAST to it, and ends
BufferFull when OBUF has no room; OB.POP moves the front byte of OBUF to ODATA and leaves ZE_LAST, and on an
empty OBUF ends BufferEmpty with ODATA unchanged; OB.CLR empties OBUF and leaves ZE_LAST; nothing else
changes. -/
def Obligations.OutputBufferCommands : Prop :=
  (∀ (b : Byte) (s : State),
    decode (0x06000000 ||| b.setWidth 32) = .ok (.obPush b)
    ∧ (s.obuf.length + 1 ≤ 4096 → exec (.obPush b) s =
        .next (endedOk { s with obuf := s.obuf ++ [b], zstate := { s.zstate with zeLast := b } }))
    ∧ (4096 < s.obuf.length + 1 →
        exec (.obPush b) s = .next (ended .bufferFull (0x06000000 ||| b.setWidth 32) s)))
  ∧ (∀ s : State, decode 0x07000000 = .ok .obPop
    ∧ (s.obuf = [] → exec .obPop s = .next (ended .bufferEmpty 0x07000000 s))
    ∧ (∀ b rest, s.obuf = b :: rest → exec .obPop s = .next (endedOk { s with odata := b, obuf := rest })))
  ∧ (∀ s : State, decode 0x08000000 = .ok .obClr ∧ exec .obClr s = .next (endedOk { s with obuf := [] }))

/-- Formalises R160, R161, R163, R164, R166, R167. The words of CK8.INIT, CK8.UPD, C16.INIT, C16.UPD, C32.INIT
and C32.UPD decode; each ends Ok from every state and changes only its own register: to its initial value,
or by one step of its function; and the single-byte values the rules give hold. -/
def Obligations.ChecksumInitAndUpdate : Prop :=
  (∀ (b : Byte) (s : State),
    decode 0x10000000 = .ok .ck8Init ∧ exec .ck8Init s = .next (endedOk { s with ck8 := 0x00 })
    ∧ decode (0x11000000 ||| b.setWidth 32) = .ok (.ck8Upd b)
    ∧ exec (.ck8Upd b) s = .next (endedOk { s with ck8 := BitVec.ofNat 8 (s.ck8.toNat + b.toNat) })
    ∧ decode 0x13000000 = .ok .c16Init ∧ exec .c16Init s = .next (endedOk { s with crc16 := 0x0000 })
    ∧ decode (0x14000000 ||| b.setWidth 32) = .ok (.c16Upd b)
    ∧ exec (.c16Upd b) s = .next (endedOk { s with crc16 := crc16Step s.crc16 b })
    ∧ decode 0x16000000 = .ok .c32Init ∧ exec .c32Init s = .next (endedOk { s with crc32Raw := 0xFFFFFFFF })
    ∧ decode (0x17000000 ||| b.setWidth 32) = .ok (.c32Upd b)
    ∧ exec (.c32Upd b) s = .next (endedOk { s with crc32Raw := crc32Step s.crc32Raw b }))
  ∧ [crc16Step 0 0x00, crc16Step 0 0x01, crc16Step 0 0x41, crc16Step 0 0x80, crc16Step 0 0xFF]
      = [0x0000, 0x1021, 0x58E5, 0x9188, 0x1EF0]
  ∧ [crc32 [0x00], crc32 [0x01], crc32 [0x41], crc32 [0x80], crc32 [0xFF]]
      = [0xD202EF8D, 0xA505DF1B, 0xD3D99E8B, 0x3FBA6CAD, 0xFF000000]

/-- Rests on spec/41_checksum.md CK8.BUF, C16.BUF, C32.BUF; spec/95_test_vectors.md V2.4. CK8.BUF ends Ok with
the sum of TXP added to CK8 modulo 256; C16.BUF and C32.BUF end Ok in the very state that one C16.UPD or
C32.UPD per byte of TXP in order reaches, which differs from the start in that one register only; TXP is
unchanged. -/
def Obligations.PayloadChecksumEqualsByteUpdates : Prop :=
  ∀ s : State,
    exec .ck8Buf s = .next (endedOk { s with ck8 := BitVec.ofNat 8 (s.ck8.toNat + byteSum s.txp) })
    ∧ (∃ u, exec .c16Buf s = .next u ∧ runCommands (s.txp.map Instr.c16Upd) (endedOk s) = .next u
        ∧ u = endedOk { s with crc16 := u.crc16 })
    ∧ (∃ u, exec .c32Buf s = .next u ∧ runCommands (s.txp.map Instr.c32Upd) (endedOk s) = .next u
        ∧ u = endedOk { s with crc32Raw := u.crc32Raw })

/-- Formalises R154, R158. For every register value and byte, one step of CRC-16 is the shifted register XOR the
table entry of the top byte XOR the byte, and one step of CRC-32 is the shifted register XOR the table entry
of the low byte XOR the byte, the tables being the steps from 0; the entries the rules list hold. -/
def Obligations.CrcTableForms : Prop :=
  (∀ (c : Half) (b : Byte),
    crc16Step c b = (c <<< 8) ^^^ crc16Step 0x0000 ((c >>> 8).setWidth 8 ^^^ b))
  ∧ (List.range 16).map (fun i => crc16Step 0x0000 (BitVec.ofNat 8 i))
      = [0x0000, 0x1021, 0x2042, 0x3063, 0x4084, 0x50A5, 0x60C6, 0x70E7]
        ++ [0x8108, 0x9129, 0xA14A, 0xB16B, 0xC18C, 0xD1AD, 0xE1CE, 0xF1EF]
  ∧ crc16Step 0x0000 0xFF = 0x1EF0
  ∧ (∀ (c : Word) (b : Byte),
    crc32Step c b = (c >>> 8) ^^^ crc32Step 0x00000000 (c.setWidth 8 ^^^ b))
  ∧ (List.range 8).map (fun i => crc32Step 0x00000000 (BitVec.ofNat 8 i))
      = [0x00000000, 0x77073096, 0xEE0E612C, 0x990951BA]
        ++ [0x076DC419, 0x706AF48F, 0xE963A535, 0x9E6495A3]
  ∧ crc32Step 0x00000000 0xFF = 0x2D02EF8D

/-- Formalises R155, R159. For every byte sequence d with k its CRC-16, the CRC-16 of d followed by the high and
then the low byte of k is 0; the sum, the CRC-16 and the raw CRC-32 of x followed by y are those of y
started from those of x, and the final CRC-32 follows from the raw register. What the host reads from CK8,
CRC16 or CRC32_RAW and later writes back restores that register. -/
def Obligations.ChecksumLaws : Prop :=
  (∀ d : List Byte,
    crc16 (d ++ [(crc16 d 0 >>> 8).setWidth 8, (crc16 d 0).setWidth 8]) 0 = 0x0000)
  ∧ (∀ (x y : List Byte) (s : Byte), ck8 (x ++ y) s = ck8 y (ck8 x s))
  ∧ (∀ (x y : List Byte) (c : Half), crc16 (x ++ y) c = crc16 y (crc16 x c))
  ∧ (∀ (x y : List Byte) (c : Word), crc32Raw (x ++ y) c = crc32Raw y (crc32Raw x c))
  ∧ (∀ x y : List Byte, crc32 (x ++ y) = crc32Raw y (crc32 x ^^^ 0xFFFFFFFF) ^^^ 0xFFFFFFFF)
  ∧ (∀ saved s : State,
      regWrite 0x1C (regRead 0x1C saved) s = { s with ck8 := saved.ck8 }
      ∧ regWrite 0x20 (regRead 0x20 saved) s = { s with crc16 := saved.crc16 }
      ∧ regWrite 0x24 (regRead 0x24 saved) s = { s with crc32Raw := saved.crc32Raw })

/-- Formalises R174, R175. ZE.RST sets ZE_LAST to 0. ZE.PUT b emits the introducer and b XOR 0x40 when b is in
0x00..0x1F or 0x80..0x9F and either its ESCMAP bit is 1 (the introducer's always is) or CRCTX is 1, b is
0x0D or 0x8D and ZE_LAST is 0x40 or 0xC0; otherwise it emits b. If what it emits does not fit it ends
BufferFull and emits nothing; nothing else changes. -/
def Obligations.EncoderPutsOneByte : Prop :=
  (∀ s : State, decode 0x20000000 = .ok .zeRst
    ∧ exec .zeRst s = .next (endedOk { s with zstate := { s.zstate with zeLast := 0x00 } }))
  ∧ (∀ (b : Byte) (s : State),
    let w : Word := 0x21000000 ||| b.setWidth 32
    let inMap : Prop :=
      if b.toNat < 32 then b = 0x18 ∨ s.escmapLo.getLsbD b.toNat = true
      else s.escmapHi.getLsbD (b.toNat - 128) = true
    let crRule : Prop :=
      s.cfg.crctx = true ∧ (b = 0x0D ∨ b = 0x8D) ∧ (s.zstate.zeLast = 0x40 ∨ s.zstate.zeLast = 0xC0)
    let escaped : Prop := (b.toNat < 32 ∨ (128 ≤ b.toNat ∧ b.toNat < 160)) ∧ (inMap ∨ crRule)
    decode w = .ok (.zePut b)
    ∧ (escaped → s.obuf.length + 2 ≤ 4096 → exec (.zePut b) s = .next (endedOk
        { s with obuf := s.obuf ++ [0x18, b ^^^ 0x40], zstate := { s.zstate with zeLast := b ^^^ 0x40 } }))
    ∧ (escaped → 4096 < s.obuf.length + 2 → exec (.zePut b) s = .next (ended .bufferFull w s))
    ∧ (¬ escaped → s.obuf.length + 1 ≤ 4096 → exec (.zePut b) s = .next (endedOk
        { s with obuf := s.obuf ++ [b], zstate := { s.zstate with zeLast := b } }))
    ∧ (¬ escaped → 4096 < s.obuf.length + 1 → exec (.zePut b) s = .next (ended .bufferFull w s)))

/-- Rests on spec/42_escape.md ZE.BUF; spec/42_escape.md The encoder's pure function. ZE.BUF ends Ok exactly
when OBUF has room for the encoded form of TXP, whose context starts at ZE_LAST; then it emits that form and
its state is the one that one ZE.PUT per byte of TXP in order reaches; room for two bytes per byte of TXP is
always enough; and when it does not end Ok it ends BufferFull with nothing emitted. TXP is unchanged. -/
def Obligations.EncodePayloadEqualsBytePuts : Prop :=
  ∀ s : State, ∃ t, exec .zeBuf s = .next t
    ∧ (let w := (zenc (escmap s) s.cfg.crctx s.zstate.zeLast s.txp).1
       (t.result = .ok ↔ s.obuf.length + w.length ≤ 4096)
       ∧ (t.result = .ok → t = endedOk (emitted w s)))
    ∧ (t.result = .ok → runCommands (s.txp.map Instr.zePut) (endedOk s) = .next t)
    ∧ (s.obuf.length + 2 * s.txp.length ≤ 4096 → t.result = .ok)
    ∧ (t.result ≠ .ok → t = ended .bufferFull 0x22000000 s)
    ∧ t.txp = s.txp

/-- Formalises R178, R179, R180. ZD.RST clears ZD_PEND. ZD.PUT with nothing pending takes an introducer into
ZD_PEND and appends any other byte to RXP; with an introducer pending it ends InvalidEscape on a byte
outside the valid escape set and otherwise appends the byte XOR 0x40 and clears ZD_PEND; an append to a full
RXP ends BufferFull, tested after the escape. ZD.END ends InvalidEscape when an introducer is pending, else
Ok. Nothing else changes. -/
def Obligations.StreamingDecoderCommands : Prop :=
  (∀ s : State, decode 0x24000000 = .ok .zdRst
    ∧ exec .zdRst s = .next (endedOk { s with zstate := { s.zstate with zdPend := false } }))
  ∧ (∀ (b : Byte) (s : State),
    let w : Word := 0x25000000 ||| b.setWidth 32
    decode w = .ok (.zdPut b)
    ∧ (s.zstate.zdPend = false →
        (b = 0x18 → exec (.zdPut b) s = .next (endedOk { s with zstate := { s.zstate with zdPend := true } }))
        ∧ (b ≠ 0x18 → s.rxp.length = 1024 → exec (.zdPut b) s = .next (ended .bufferFull w s))
        ∧ (b ≠ 0x18 → s.rxp.length ≠ 1024 →
            exec (.zdPut b) s = .next (endedOk { s with rxp := s.rxp ++ [b] })))
    ∧ (s.zstate.zdPend = true →
        (b &&& 0x60 ≠ 0x40 → exec (.zdPut b) s = .next (ended .invalidEscape w s))
        ∧ (b &&& 0x60 = 0x40 → s.rxp.length = 1024 → exec (.zdPut b) s = .next (ended .bufferFull w s))
        ∧ (b &&& 0x60 = 0x40 → s.rxp.length ≠ 1024 → exec (.zdPut b) s = .next (endedOk
            { s with rxp := s.rxp ++ [b ^^^ 0x40], zstate := { s.zstate with zdPend := false } }))))
  ∧ (∀ s : State, decode 0x26000000 = .ok .zdEnd
    ∧ (s.zstate.zdPend = true → exec .zdEnd s = .next (ended .invalidEscape 0x26000000 s))
    ∧ (s.zstate.zdPend = false → exec .zdEnd s = .next (endedOk s)))

/-- Formalises R181. If IBUF is the escaped form of a byte sequence d of at most 1024 bytes, ZD.BUF ends Ok with
RXP = d and IBUF empty; if d is longer it ends BufferFull; if IBUF is the escaped form of nothing (a bad
byte after an introducer, or an introducer at the end) it ends InvalidEscape; ZD_PEND and everything else
are unchanged. -/
def Obligations.WholeBufferDecode : Prop :=
  ∀ s : State, decode 0x27000000 = .ok .zdBuf
    ∧ (∀ d, EscapedAs s.ibuf d → d.length ≤ 1024 →
        exec .zdBuf s = .next (endedOk { s with rxp := d, ibuf := [] }))
    ∧ (∀ d, EscapedAs s.ibuf d → 1024 < d.length → exec .zdBuf s = .next (ended .bufferFull 0x27000000 s))
    ∧ ((¬ ∃ d, EscapedAs s.ibuf d) → exec .zdBuf s = .next (ended .invalidEscape 0x27000000 s))

/-- Formalises R182. For every byte sequence, every escape map with bit 24 set, both values of CRCTX and every
starting last byte, zdec of the encoder's output is the input; and in commands, if OBUF was empty and ZE.BUF
ended Ok on a TXP of at most 1024 bytes, ZD.BUF on those wire bytes in any receiver ends Ok with RXP = that
TXP. -/
def Obligations.EscapeRoundTrip : Prop :=
  (∀ (map : BitVec 64) (crctx : Bool) (last : Byte) (x : List Byte), map.getLsbD 24 = true →
    zdec (zenc map crctx last x).1 = .ok x)
  ∧ (∀ s t r : State, s.obuf = [] → exec .zeBuf s = .next t → t.result = .ok → s.txp.length ≤ 1024 →
    r.ibuf = t.obuf → exec .zdBuf r = .next (endedOk { r with rxp := s.txp, ibuf := [] }))

/-- Formalises R194. FS.XBLK ends Overrun when TXP is longer than the variant's payload. Otherwise the block is
the marker, BLK, 255 - BLK, TXP filled with 0x1A, and a trailer of the variant's length holding the check
value of the padded payload, most significant byte first; it is emitted and the command ends Ok, or ends
BufferFull when it does not fit; nothing else changes. -/
def Obligations.XmodemBlockSerialized : Prop :=
  ∀ s : State,
    let v := s.cfg.xvar
    let n := (variantShape v).2.1
    let p := s.txp ++ List.replicate (n - s.txp.length) 0x1A
    decode 0x30000000 = .ok .fsXblk
    ∧ (n < s.txp.length → exec .fsXblk s = .next (ended .overrun 0x30000000 s))
    ∧ (s.txp.length ≤ n → ∃ tr : List Byte,
        tr.length = (variantShape v).2.2 ∧ bigEndian tr = variantCheck v p
        ∧ (let w := [(variantShape v).1, s.txDesc.blk, 255 - s.txDesc.blk] ++ p ++ tr
           (s.obuf.length + w.length ≤ 4096 → exec .fsXblk s = .next (endedOk (emitted w s)))
           ∧ (4096 < s.obuf.length + w.length → exec .fsXblk s = .next (ended .bufferFull 0x30000000 s))))

/-- Formalises R199, R200. FS.YB0 ends IllegalCommand on an empty name or one with a zero byte and Overrun when
the text name, 0, size, space, mtime, space, mode, 0 exceeds 128 bytes; otherwise it emits 01 00 FF, the
text filled with zeros to 128 bytes, and its CRC-16 high byte first, or ends BufferFull. FS.YEOB emits 01 00
FF, 128 zeros and 00 00 (the CRC-16 of the zeros), or ends BufferFull. Nothing else changes. -/
def Obligations.YmodemBlock0Serialized : Prop :=
  (∀ s : State,
    let text := s.txp ++ [0x00] ++ decAscii s.txYsize ++ [0x20] ++ octAscii s.txYmtime ++ [0x20]
                  ++ octAscii s.txYmode ++ [0x00]
    let p := text ++ List.replicate (128 - text.length) 0x00
    decode 0x31000000 = .ok .fsYb0
    ∧ (s.txp = [] ∨ 0x00 ∈ s.txp → exec .fsYb0 s = .next (ended .illegalCommand 0x31000000 s))
    ∧ (s.txp ≠ [] → 0x00 ∉ s.txp → 128 < text.length → exec .fsYb0 s = .next (ended .overrun 0x31000000 s))
    ∧ (s.txp ≠ [] → 0x00 ∉ s.txp → text.length ≤ 128 → ∃ tr : List Byte,
        tr.length = 2 ∧ bigEndian tr = (crc16 p 0x0000).toNat
        ∧ (s.obuf.length + 133 ≤ 4096 →
            exec .fsYb0 s = .next (endedOk (emitted ([0x01, 0x00, 0xFF] ++ p ++ tr) s)))
        ∧ (4096 < s.obuf.length + 133 → exec .fsYb0 s = .next (ended .bufferFull 0x31000000 s))))
  ∧ (∀ s : State, decode 0x32000000 = .ok .fsYeob
    ∧ (s.obuf.length + 133 ≤ 4096 → exec .fsYeob s = .next (endedOk
        (emitted ([0x01, 0x00, 0xFF] ++ List.replicate 128 0x00 ++ [0x00, 0x00]) s)))
    ∧ (4096 < s.obuf.length + 133 → exec .fsYeob s = .next (ended .bufferFull 0x32000000 s)))
  ∧ crc16 (List.replicate 128 0x00) 0x0000 = 0x0000

/-- Rests on spec/43_serializer.md Zmodem frame header (R204, hex header layout); spec/43_serializer.md Zmodem
frame header (R205, binary header with CRC-16); spec/43_serializer.md Zmodem frame header (R206, binary
header with CRC-32); spec/43_serializer.md Zmodem frame header (R209, FS.ZHDR). FS.ZHDR ends
InvalidFrameType when ZTYPE is above 19. Otherwise the body is the type and the four bytes of TX_ZHDR, least
significant first; hex: 2A 2A 18 42, the hex digits of the body and its CRC-16 high byte first, 0D 0A, and
11 unless the type is 3 or 8; binary: 2A 18 41 with the escaped body and CRC-16 high byte first, or 2A 18 43
with the escaped body and CRC-32 low byte first, the escape context starting at the letter. It is emitted
and the command ends Ok, or BufferFull; nothing else changes. For type 19 in a binary encoding the clause
rests on log entry 7 (DEDUCED: the type byte 0x13 is escaped, as the layouts say and test vector V6.16 does
not). -/
def Obligations.ZmodemHeaderSerialized : Prop :=
  ∀ s : State,
    let t : Byte := s.txDesc.ztype.setWidth 8
    let h := s.txZhdr
    let body : List Byte := [t, h.setWidth 8, (h >>> 8).setWidth 8, (h >>> 16).setWidth 8, (h >>> 24).setWidth 8]
    decode 0x33000000 = .ok .fsZhdr
    ∧ (19 < s.txDesc.ztype.toNat → exec .fsZhdr s = .next (ended .invalidFrameType 0x33000000 s))
    ∧ (s.txDesc.ztype.toNat ≤ 19 → ∃ c2 c4 : List Byte,
        c2.length = 2 ∧ bigEndian c2 = (crc16 body 0x0000).toNat
        ∧ c4.length = 4 ∧ littleEndian c4 = (crc32 body).toNat
        ∧ (let w : List Byte :=
             match s.txDesc.zenc with
             | .hex => [0x2A, 0x2A, 0x18, 0x42] ++ hexWire (body ++ c2) ++ [0x0D, 0x0A]
                         ++ (if t = 3 ∨ t = 8 then [] else [0x11])
             | .bin16 => [0x2A, 0x18, 0x41] ++ (zenc (escmap s) s.cfg.crctx 0x41 (body ++ c2)).1
             | .bin32 => [0x2A, 0x18, 0x43] ++ (zenc (escmap s) s.cfg.crctx 0x43 (body ++ c4)).1
           (s.obuf.length + w.length ≤ 4096 → exec .fsZhdr s = .next (endedOk (emitted w s)))
           ∧ (4096 < s.obuf.length + w.length → exec .fsZhdr s = .next (ended .bufferFull 0x33000000 s))))

/-- Formalises R210. With m = 0x68 + ZEND, FS.ZDAT emits TXP escaped from the context ZE_LAST, the introducer
and m unescaped, and then, escaped from the context m, the check value over TXP followed by m: the CRC-16
high byte first when ZCRCW is 0, the CRC-32 low byte first when it is 1. It ends Ok, or BufferFull when it
does not fit; nothing else changes. -/
def Obligations.ZmodemDataSerialized : Prop :=
  ∀ s : State,
    let m : Byte := 0x68 + s.txDesc.zend.setWidth 8
    decode 0x34000000 = .ok .fsZdat
    ∧ ∃ cb : List Byte,
        (s.cfg.zcrcw = false → cb.length = 2 ∧ bigEndian cb = (crc16 (s.txp ++ [m]) 0x0000).toNat)
        ∧ (s.cfg.zcrcw = true → cb.length = 4 ∧ littleEndian cb = (crc32 (s.txp ++ [m])).toNat)
        ∧ (let w := (zenc (escmap s) s.cfg.crctx s.zstate.zeLast s.txp).1 ++ [0x18, m]
                      ++ (zenc (escmap s) s.cfg.crctx m cb).1
           (s.obuf.length + w.length ≤ 4096 → exec .fsZdat s = .next (endedOk (emitted w s)))
           ∧ (4096 < s.obuf.length + w.length → exec .fsZdat s = .next (ended .bufferFull 0x34000000 s)))

/-- Rests on spec/70_reset_and_hazards.md section 3 (capacity facts); spec/43_serializer.md layouts. From a
state with OBUF empty and at most 1024 bytes in TXP, no serializer command ends BufferFull, and what it
appends is at most 1029 bytes for FS.XBLK, exactly 133 for FS.YB0 and FS.YEOB when they end Ok, at most 21
for FS.ZHDR and 2058 for FS.ZDAT; a header and then a subpacket fit together. -/
def Obligations.UnitLengthBounds : Prop :=
  ∀ s : State, s.obuf = [] → s.txp.length ≤ 1024 →
    (∀ i t, i ∈ [Instr.fsXblk, .fsYb0, .fsYeob, .fsZhdr, .fsZdat] → exec i s = .next t →
      t.result ≠ .bufferFull
      ∧ (i = .fsXblk → t.obuf.length ≤ 1029) ∧ (i = .fsYb0 → t.result = .ok → t.obuf.length = 133)
      ∧ (i = .fsYeob → t.obuf.length = 133) ∧ (i = .fsZhdr → t.obuf.length ≤ 21)
      ∧ (i = .fsZdat → t.obuf.length ≤ 2058))
    ∧ (∀ t u, exec .fsZhdr s = .next t → exec .fsZdat t = .next u → u.result = .ok)

/-- Rests on spec/43_serializer.md Ymodem block 0 (number text). For every 32-bit number the decimal text is 1
to 10 decimal digits and the octal text 1 to 11 octal digits, each writing that number in its base, most
significant digit first, without a leading zero, and "0" for 0; the tail behind the name is at most 36
bytes, so a name of up to 92 bytes always fits. -/
def Obligations.NumberTextIsShortAndReadsBack : Prop :=
  (∀ n : Word,
    decAscii n ≠ [] ∧ (decAscii n).length ≤ 10 ∧ (∀ b ∈ decAscii n, Digit 10 b)
    ∧ textNumber 10 (decAscii n) = n.toNat ∧ (n ≠ 0 → (decAscii n).head? ≠ some 0x30)
    ∧ (n = 0 → decAscii n = [0x30])
    ∧ octAscii n ≠ [] ∧ (octAscii n).length ≤ 11 ∧ (∀ b ∈ octAscii n, Digit 8 b)
    ∧ textNumber 8 (octAscii n) = n.toNat ∧ (n ≠ 0 → (octAscii n).head? ≠ some 0x30)
    ∧ (n = 0 → octAscii n = [0x30]))
  ∧ (∀ (name : List Byte) (a t m : Word),
    (yb0Text name a t m).length ≤ name.length + 36
    ∧ (name.length ≤ 92 → (yb0Text name a t m).length ≤ 128))

/-- Rests on spec/43_serializer.md Template and common behaviour (inputs are never consumed);
spec/95_test_vectors.md V8.6. Every serializer command leaves TXP, the TX registers, CFG and ESCMAP
unchanged, whether it ends Ok or faults; if it ends Ok and is issued again and ends Ok again, it appends the
same bytes again (for FS.ZDAT, whose bytes depend on ZE_LAST, when ZE_LAST is the same at both times). -/
def Obligations.RepeatedSerializationRepeatsUnit : Prop :=
  ∀ (i : Instr) (s t u : State), i ∈ [Instr.fsXblk, .fsYb0, .fsYeob, .fsZhdr, .fsZdat] →
    exec i s = .next t →
    (t.txp = s.txp ∧ t.txDesc = s.txDesc ∧ t.txZhdr = s.txZhdr ∧ t.txYsize = s.txYsize
      ∧ t.txYmtime = s.txYmtime ∧ t.txYmode = s.txYmode ∧ t.cfg = s.cfg
      ∧ t.escmapLo = s.escmapLo ∧ t.escmapHi = s.escmapHi)
    ∧ (t.result = .ok → exec i t = .next u → u.result = .ok →
        i ≠ .fsZdat ∨ t.zstate.zeLast = s.zstate.zeLast →
        ∃ w, w ≠ [] ∧ t.obuf = s.obuf ++ w ∧ u.obuf = t.obuf ++ w)

/-- Formalises R222. By the variant's marker, payload size and trailer length: an empty IBUF or too few bytes
behind the right marker is Incomplete; a wrong first byte is InvalidBlockHeader; a whole block with a wrong
complement is ComplementMismatch; with the right complement both check-value registers are written, a
difference is the variant's mismatch code, and otherwise the command ends Ok with the block number, the
payload in RXP and exactly the block removed from IBUF. Nothing else changes. -/
def Obligations.XmodemBlockParsed : Prop :=
  ∀ s : State,
    let v := s.cfg.xvar
    let m := (variantShape v).1
    let n := (variantShape v).2.1
    let tl := (variantShape v).2.2
    decode 0x40000000 = .ok .fpXblk
    ∧ (s.ibuf = [] → exec .fpXblk s = .next (ended .incomplete 0x40000000 s))
    ∧ (∀ b rest, s.ibuf = b :: rest → b ≠ m →
        exec .fpXblk s = .next (ended .invalidBlockHeader 0x40000000 s))
    ∧ (∀ rest, s.ibuf = m :: rest → s.ibuf.length < 3 + n + tl →
        exec .fpXblk s = .next (ended .incomplete 0x40000000 s))
    ∧ (∀ (num comp : Byte) (p tr rest : List Byte), s.ibuf = [m, num, comp] ++ p ++ tr ++ rest →
        p.length = n → tr.length = tl →
        (comp ≠ 255 - num → exec .fpXblk s = .next (ended .complementMismatch 0x40000000 s))
        ∧ (comp = 255 - num →
            let s1 := { s with rxCrcCalc := BitVec.ofNat 32 (variantCheck v p),
                               rxCrcRcvd := BitVec.ofNat 32 (bigEndian tr) }
            (variantCheck v p ≠ bigEndian tr →
              exec .fpXblk s = .next (ended (variantMismatch v) 0x40000000 s1))
            ∧ (variantCheck v p = bigEndian tr → exec .fpXblk s = .next (endedOk
                { s1 with rxDesc := { s.rxDesc with blk := num }, rxp := p, ibuf := rest }))))

/-- Formalises R224. Whatever CFG.XVAR holds, FP.YB0 judges header byte 0x01, presence of 133 bytes, complement
and CRC-16 as FP.XBLK of variant Crc does, then ends InvalidBlockHeader when the number is not 0 (check
values written), and otherwise ends Ok with what yb0_fields reads from the payload in its registers (numbers
modulo 2^32, presence and overflow flags), the payload in RXP and the 133 bytes removed; the Zmodem fields
of RX_DESC and everything else are unchanged. -/
def Obligations.YmodemBlock0Parsed : Prop :=
  ∀ s : State, decode 0x41000000 = .ok .fpYb0
    ∧ (s.ibuf = [] → exec .fpYb0 s = .next (ended .incomplete 0x41000000 s))
    ∧ (∀ b rest, s.ibuf = b :: rest → b ≠ 0x01 →
        exec .fpYb0 s = .next (ended .invalidBlockHeader 0x41000000 s))
    ∧ (∀ rest, s.ibuf = 0x01 :: rest → s.ibuf.length < 133 →
        exec .fpYb0 s = .next (ended .incomplete 0x41000000 s))
    ∧ (∀ (num comp hi lo : Byte) (p rest : List Byte), s.ibuf = [0x01, num, comp] ++ p ++ [hi, lo] ++ rest →
        p.length = 128 →
        (comp ≠ 255 - num → exec .fpYb0 s = .next (ended .complementMismatch 0x41000000 s))
        ∧ (comp = 255 - num →
            let s1 := { s with rxCrcCalc := (crc16 p 0x0000).setWidth 32,
                               rxCrcRcvd := BitVec.ofNat 32 (bigEndian [hi, lo]) }
            let f := yb0Fields p
            ((crc16 p 0x0000).toNat ≠ bigEndian [hi, lo] →
              exec .fpYb0 s = .next (ended .crcMismatch 0x41000000 s1))
            ∧ ((crc16 p 0x0000).toNat = bigEndian [hi, lo] →
                (num ≠ 0 → exec .fpYb0 s = .next (ended .invalidBlockHeader 0x41000000 s1))
                ∧ (num = 0 → exec .fpYb0 s = .next (endedOk
                    { s1 with
                      rxDesc := { s.rxDesc with
                        blk := 0, yeob := f.eob
                        ysizeP := decide (1 ≤ f.numbers.length)
                        ymtimeP := decide (2 ≤ f.numbers.length)
                        ymodeP := decide (3 ≤ f.numbers.length)
                        yovf := decide (∃ x ∈ f.numbers, 2 ^ 32 ≤ x) }
                      rxYnlen := BitVec.ofNat 8 f.nlen
                      rxYsize := BitVec.ofNat 32 (f.numbers.getD 0 0)
                      rxYmtime := BitVec.ofNat 32 (f.numbers.getD 1 0)
                      rxYmode := BitVec.ofNat 32 (f.numbers.getD 2 0)
                      rxp := p, ibuf := rest })))))

/-- Formalises R225, R226, R227. An all-zero payload is end of batch with nothing else; otherwise the name runs
to the first zero byte (all 128 bytes when there is none, with no number), and behind it stand up to three
numbers: a longest run of decimal digits, then twice one space and a longest run of octal digits, reading
stopping at the first that is missing; each number is the value its digits write. A number's presence flag
is 1 exactly when it was read, its register gets it modulo 2^32 and 0 when it was not, and YOVF is 1 exactly
when one read is 2^32 or more. -/
def Obligations.YmodemMetadataRead : Prop :=
  ∀ p : List Byte, p.length = 128 →
    (p = List.replicate 128 0x00 → yb0Fields p = { eob := true, nlen := 0, numbers := [] }
      ∧ yb0Overflow (yb0Fields p) = false ∧ ∀ k, yb0Value (yb0Fields p) k = 0)
    ∧ (0x00 ∉ p → yb0Fields p = { eob := false, nlen := 128, numbers := [] })
    ∧ (∀ name tail : List Byte, p ≠ List.replicate 128 0x00 → p = name ++ [0x00] ++ tail → 0x00 ∉ name →
        (yb0Fields p).eob = false ∧ (yb0Fields p).nlen = name.length
        ∧ ((∀ b ∈ tail.head?, ¬ Digit 10 b) → (yb0Fields p).numbers = [])
        ∧ (∀ size r1, tail = size ++ r1 → WholeRun 10 size r1 →
            (¬ OctalFollows r1 → (yb0Fields p).numbers = [textNumber 10 size])
            ∧ (∀ mtime r2, r1 = [0x20] ++ mtime ++ r2 → WholeRun 8 mtime r2 →
                (¬ OctalFollows r2 →
                  (yb0Fields p).numbers = [textNumber 10 size, textNumber 8 mtime])
                ∧ (∀ mode r3, r2 = [0x20] ++ mode ++ r3 → WholeRun 8 mode r3 →
                    (yb0Fields p).numbers =
                      [textNumber 10 size, textNumber 8 mtime, textNumber 8 mode]))))
    ∧ (∀ s : State,
        let n := (yb0Fields p).numbers
        let u := setYb0 (yb0Fields p) s
        (u.rxDesc.ysizeP = true ↔ 1 ≤ n.length) ∧ (u.rxDesc.ymtimeP = true ↔ 2 ≤ n.length)
        ∧ (u.rxDesc.ymodeP = true ↔ n.length = 3)
        ∧ (u.rxDesc.yovf = true ↔ ∃ x ∈ n, 2 ^ 32 ≤ x)
        ∧ u.rxYsize.toNat = n.getD 0 0 % 2 ^ 32 ∧ u.rxYmtime.toNat = n.getD 1 0 % 2 ^ 32
        ∧ u.rxYmode.toNat = n.getD 2 0 % 2 ^ 32)

/-- Rests on spec/44_parser.md Zmodem frame header (FP.ZHDR). If IBUF starts with one or more pad bytes, the
introducer, a letter and the whole body in that letter's form (14 hex digits for 7 logical bytes; the
escaped form of 7 or 9 logical bytes), both check-value registers are written; a difference is CrcMismatch,
then a type above 19 is InvalidFrameType, and otherwise the command ends Ok with type, encoding and the four
bytes in the result registers and exactly the header removed from IBUF. Nothing else changes. -/
def Obligations.ZmodemHeaderParsed : Prop :=
  ∀ (s : State) (k : Nat) (enc : ZEncoding) (e : Byte) (wire l rest : List Byte),
    ((enc = .hex ∧ e = 0x42 ∧ wire = hexWire l ∧ l.length = 7)
      ∨ (enc = .bin16 ∧ e = 0x41 ∧ EscapedAs wire l ∧ l.length = 7)
      ∨ (enc = .bin32 ∧ e = 0x43 ∧ EscapedAs wire l ∧ l.length = 9)) →
    s.ibuf = List.replicate (k + 1) 0x2A ++ [0x18, e] ++ wire ++ rest →
    let calculated : Nat := if enc = .bin32 then (crc32 (l.take 5)).toNat else (crc16 (l.take 5) 0x0000).toNat
    let received : Nat := if enc = .bin32 then littleEndian (l.drop 5) else bigEndian (l.drop 5)
    let s1 := { s with rxCrcCalc := BitVec.ofNat 32 calculated, rxCrcRcvd := BitVec.ofNat 32 received }
    let ztype := l.headD 0
    (calculated ≠ received → exec .fpZhdr s = .next (ended .crcMismatch 0x42000000 s1))
    ∧ (calculated = received → 19 < ztype.toNat →
        exec .fpZhdr s = .next (ended .invalidFrameType 0x42000000 s1))
    ∧ (calculated = received → ztype.toNat ≤ 19 → exec .fpZhdr s = .next (endedOk
        { s1 with
          rxDesc := { s.rxDesc with ztype := BitVec.ofNat 5 ztype.toNat, zenc := enc }
          rxZhdr := BitVec.ofNat 32 (littleEndian ((l.drop 1).take 4))
          ibuf := rest }))

/-- Rests on spec/44_parser.md Zmodem frame header (header start, hex body, binary bodies, FP.ZHDR). Nothing,
only pad bytes, a missing letter or a body that ends too early is Incomplete; a first byte other than 0x2A,
a byte other than the introducer behind the pads, an unknown letter, or a byte that is no lowercase hex
digit in a hex body is InvalidFrameEncoding; in a binary body an introducer at the end is Incomplete and one
followed by a byte outside the valid escape set is InvalidEscape. Nothing else changes. -/
def Obligations.ZmodemHeaderScanFaults : Prop :=
  ∀ (s : State) (k : Nat) (l rest : List Byte) (a b : Byte),
    let pads : List Byte := List.replicate (k + 1) 0x2A
    let endsIn (c : ResultCode) : Prop := exec .fpZhdr s = .next (ended c 0x42000000 s)
    (s.ibuf = [] ∨ s.ibuf = pads ∨ s.ibuf = pads ++ [0x18] → endsIn .incomplete)
    ∧ (s.ibuf = b :: rest → b ≠ 0x2A → endsIn .invalidFrameEncoding)
    ∧ (s.ibuf = pads ++ [b] ++ rest → b ≠ 0x2A → b ≠ 0x18 → endsIn .invalidFrameEncoding)
    ∧ (s.ibuf = pads ++ [0x18, b] ++ rest → b ∉ [0x41, 0x42, 0x43] → endsIn .invalidFrameEncoding)
    ∧ (l.length < 7 → a ∈ hexDigits →
        (s.ibuf = pads ++ [0x18, 0x42] ++ hexWire l ∨ s.ibuf = pads ++ [0x18, 0x42] ++ hexWire l ++ [a] →
          endsIn .incomplete)
        ∧ (b ∉ hexDigits →
            (s.ibuf = pads ++ [0x18, 0x42] ++ hexWire l ++ [b] ++ rest
              ∨ s.ibuf = pads ++ [0x18, 0x42] ++ hexWire l ++ [a, b] ++ rest) →
          endsIn .invalidFrameEncoding))
    ∧ (∀ (wire : List Byte) (e : Byte), EscapedAs wire l → (e = 0x41 ∧ l.length < 7) ∨ (e = 0x43 ∧ l.length < 9) →
        (s.ibuf = pads ++ [0x18, e] ++ wire ∨ s.ibuf = pads ++ [0x18, e] ++ wire ++ [0x18] →
          endsIn .incomplete)
        ∧ (s.ibuf = pads ++ [0x18, e] ++ wire ++ [0x18, b] ++ rest → b &&& 0x60 ≠ 0x40 →
          endsIn .invalidEscape))

/-- Rests on spec/44_parser.md Zmodem data subpacket (FP.ZDAT). If IBUF starts with the escaped form of a
payload of at most 1024 bytes, the introducer, a marker 0x68 to 0x6B and the escaped form of the check bytes
(2, or 4 when ZCRCW is 1), both check-value registers are written; a difference is CrcMismatch, and
otherwise the command ends Ok with the marker selector, the payload in RXP and exactly the subpacket
removed. Nothing else changes. -/
def Obligations.ZmodemDataParsed : Prop :=
  ∀ (s : State) (wire d cw cb rest : List Byte) (m : Byte),
    EscapedAs wire d → d.length ≤ 1024 → 0x68 ≤ m.toNat → m.toNat ≤ 0x6B →
    EscapedAs cw cb → cb.length = (if s.cfg.zcrcw then 4 else 2) →
    s.ibuf = wire ++ [0x18, m] ++ cw ++ rest →
    let calculated : Nat :=
      if s.cfg.zcrcw then (crc32 (d ++ [m])).toNat else (crc16 (d ++ [m]) 0x0000).toNat
    let received : Nat := if s.cfg.zcrcw then littleEndian cb else bigEndian cb
    let s1 := { s with rxCrcCalc := BitVec.ofNat 32 calculated, rxCrcRcvd := BitVec.ofNat 32 received }
    (calculated ≠ received → exec .fpZdat s = .next (ended .crcMismatch 0x43000000 s1))
    ∧ (calculated = received → exec .fpZdat s = .next (endedOk
        { s1 with rxDesc := { s.rxDesc with zend := BitVec.ofNat 2 (m.toNat - 0x68) }, rxp := d, ibuf := rest }))

/-- Rests on spec/44_parser.md Zmodem data subpacket (FP.ZDAT). Behind the escaped form of at most 1024 payload
bytes: the end, or an introducer at the end, is Incomplete; an introducer followed by a byte that is neither
a marker nor in the valid escape set is InvalidEscape; behind exactly 1024 payload bytes a further payload
byte, plain or escaped, is Overrun. Behind the marker and too few check bytes: the end or an introducer at
the end is Incomplete, and an introducer followed by a byte outside the valid escape set, markers included,
is InvalidEscape. Nothing else changes. -/
def Obligations.ZmodemDataScanFaults : Prop :=
  ∀ (s : State) (wire d rest : List Byte) (b : Byte), EscapedAs wire d → d.length ≤ 1024 →
    let endsIn (c : ResultCode) : Prop := exec .fpZdat s = .next (ended c 0x43000000 s)
    (s.ibuf = wire ∨ s.ibuf = wire ++ [0x18] → endsIn .incomplete)
    ∧ (s.ibuf = wire ++ [0x18, b] ++ rest → ¬ (0x68 ≤ b.toNat ∧ b.toNat ≤ 0x6B) → b &&& 0x60 ≠ 0x40 →
        endsIn .invalidEscape)
    ∧ (d.length = 1024 →
        (s.ibuf = wire ++ [b] ++ rest → b ≠ 0x18 → endsIn .overrun)
        ∧ (s.ibuf = wire ++ [0x18, b] ++ rest → b &&& 0x60 = 0x40 → endsIn .overrun))
    ∧ (∀ (m : Byte) (cw cb : List Byte), 0x68 ≤ m.toNat → m.toNat ≤ 0x6B → EscapedAs cw cb →
        cb.length < (if s.cfg.zcrcw then 4 else 2) →
        (s.ibuf = wire ++ [0x18, m] ++ cw ∨ s.ibuf = wire ++ [0x18, m] ++ cw ++ [0x18] → endsIn .incomplete)
        ∧ (s.ibuf = wire ++ [0x18, m] ++ cw ++ [0x18, b] ++ rest → b &&& 0x60 ≠ 0x40 →
          endsIn .invalidEscape))

/-- Rests on spec/44_parser.md Template and common behaviour. If a parser command ends Ok there is a number n of
bytes such that it removed exactly the first n bytes of IBUF, it ends Incomplete with nothing changed on
every proper prefix of those n bytes, and whatever follows them it does the same and leaves it. -/
def Obligations.ParsedUnitIsExactlyConsumed : Prop :=
  ∀ (i : Instr) (s t : State), isParser i = true → exec i s = .next t → t.result = .ok →
    ∃ n, 0 < n ∧ n ≤ s.ibuf.length ∧ t.ibuf = s.ibuf.drop n
      ∧ (∀ k < n, exec i { s with ibuf := s.ibuf.take k }
          = .next (ended .incomplete (encode i) { s with ibuf := s.ibuf.take k }))
      ∧ (∀ tail : List Byte, exec i { s with ibuf := s.ibuf.take n ++ tail } = .next { t with ibuf := tail })

/-- Rests on spec/44_parser.md Laws (round-trip law, Xmodem row). If OBUF was empty and FS.XBLK ended Ok, then
FP.XBLK with the same variant in any receiver whose IBUF holds those bytes ends Ok with that block number,
RXP the payload padded with 0x1A, both check values equal and IBUF empty; everything else of the receiver is
unchanged. -/
def Obligations.XmodemRoundTrip : Prop :=
  ∀ s t r : State, s.obuf = [] → exec .fsXblk s = .next t → t.result = .ok →
    r.ibuf = t.obuf → r.cfg.xvar = s.cfg.xvar →
    ∃ c : Word, exec .fpXblk r = .next (endedOk
      { r with
        rxCrcCalc := c, rxCrcRcvd := c
        rxDesc := { r.rxDesc with blk := s.txDesc.blk }
        rxp := s.txp ++ List.replicate ((variantShape s.cfg.xvar).2.1 - s.txp.length) 0x1A
        ibuf := [] })

/-- Rests on spec/44_parser.md Laws (round-trip law, Ymodem rows). If OBUF was empty and FS.YB0 ended Ok, FP.YB0
in any receiver of those bytes ends Ok with the name length, the name at the front of RXP, the three
numbers, the presence flags 1, YEOB and YOVF 0 and IBUF empty; the bytes of FS.YEOB give Ok with YEOB 1. -/
def Obligations.YmodemRoundTrip : Prop :=
  (∀ s t r : State, s.obuf = [] → exec .fsYb0 s = .next t → t.result = .ok → r.ibuf = t.obuf →
    ∃ u, exec .fpYb0 r = .next u ∧ u.result = .ok ∧ u.ibuf = []
      ∧ u.rxYnlen.toNat = s.txp.length ∧ u.rxp.take s.txp.length = s.txp ∧ u.rxp.length = 128
      ∧ u.rxYsize = s.txYsize ∧ u.rxYmtime = s.txYmtime ∧ u.rxYmode = s.txYmode
      ∧ u.rxDesc = { r.rxDesc with blk := 0, yeob := false, ysizeP := true, ymtimeP := true, ymodeP := true,
                                   yovf := false })
  ∧ (∀ s t r : State, s.obuf = [] → exec .fsYeob s = .next t → r.ibuf = t.obuf →
    ∃ u, exec .fpYb0 r = .next u ∧ u.result = .ok ∧ u.ibuf = [] ∧ u.rxDesc.yeob = true
      ∧ u.rxp = List.replicate 128 0x00)

/-- Rests on spec/44_parser.md Laws (round-trip law, Zmodem header row). If OBUF was empty and FS.ZHDR ended Ok,
under any ESCMAP and either CRCTX, FP.ZHDR in any receiver of those bytes ends Ok with the same type,
encoding and four bytes, both check values equal, and IBUF empty for the binary encodings and 0D 0A,
followed by 11 unless the type is 3 or 8, for hex; everything else of the receiver is unchanged. -/
def Obligations.ZmodemHeaderRoundTrip : Prop :=
  ∀ s t r : State, s.obuf = [] → exec .fsZhdr s = .next t → t.result = .ok → r.ibuf = t.obuf →
    ∃ c : Word, exec .fpZhdr r = .next (endedOk
      { r with
        rxCrcCalc := c, rxCrcRcvd := c
        rxDesc := { r.rxDesc with ztype := s.txDesc.ztype, zenc := s.txDesc.zenc }
        rxZhdr := s.txZhdr
        ibuf := if s.txDesc.zenc = .hex then
            [0x0D, 0x0A] ++ (if s.txDesc.ztype = 3 ∨ s.txDesc.ztype = 8 then [] else [0x11])
          else [] })

/-- Rests on spec/44_parser.md Laws (round-trip law, Zmodem subpacket row). If OBUF was empty, TXP held at most
1024 bytes and FS.ZDAT ended Ok, under any ESCMAP, CRCTX and ZE_LAST, then FP.ZDAT with the same ZCRCW in
any receiver of those bytes ends Ok with RXP = TXP, the same marker selector, both check values equal and
IBUF empty; everything else of the receiver is unchanged. -/
def Obligations.ZmodemDataRoundTrip : Prop :=
  ∀ s t r : State, s.obuf = [] → s.txp.length ≤ 1024 → exec .fsZdat s = .next t → t.result = .ok →
    r.ibuf = t.obuf → r.cfg.zcrcw = s.cfg.zcrcw →
    ∃ c : Word, exec .fpZdat r = .next (endedOk
      { r with
        rxCrcCalc := c, rxCrcRcvd := c
        rxDesc := { r.rxDesc with zend := s.txDesc.zend }
        rxp := s.txp
        ibuf := [] })

/-- Formalises R223. If OBUF was empty and FS.XBLK ended Ok, then for every position k of the block and every
byte x other than the one there, FP.XBLK with the same variant in any receiver of the block with byte k
replaced by x ends in a fault and consumes nothing: InvalidBlockHeader for k = 0, ComplementMismatch for k =
1 and 2, and ChecksumMismatch (variant Checksum) or CrcMismatch (Crc, OneK) for every later k. -/
def Obligations.SingleByteCorruptionDetected : Prop :=
  ∀ (s t r : State) (k : Nat) (x : Byte), s.obuf = [] → exec .fsXblk s = .next t → t.result = .ok →
    k < t.obuf.length → t.obuf[k]? ≠ some x → r.ibuf = t.obuf.set k x → r.cfg.xvar = s.cfg.xvar →
    ∃ u, exec .fpXblk r = .next u ∧ u.ibuf = r.ibuf ∧ u.rxp = r.rxp
      ∧ u.result = (if k = 0 then .invalidBlockHeader
                    else if k ≤ 2 then .complementMismatch
                    else variantMismatch s.cfg.xvar)

/-- Formalises R251, R252, R253, R254, R255. RT.RST clears RT_STAT and RT_DL. While EXH is 1 every other retry
command ends MaxRetriesExceeded and changes nothing. Else RT.ARM captures now + RT_TMO modulo 2^64 and arms;
RT.OK clears the count and disarms; RT.FAIL counts, disarms, and ends Ok, or sets EXH and ends
MaxRetriesExceeded when the new count reaches MAX; RT.POLL ends Ok with no change when not armed or now is
below the deadline, and otherwise counts in the same way, ending Timeout while budget remains. Nothing else
changes. -/
def Obligations.RetryCommands : Prop :=
  (∀ s : State, decode 0x50000000 = .ok .rtRst ∧ exec .rtRst s = .next (endedOk
      { s with rtStat := { cnt := 0, armed := false, exh := false }, rtDl := 0 }))
  ∧ (∀ s : State, decode 0x51000000 = .ok .rtArm ∧ decode 0x52000000 = .ok .rtOk
      ∧ decode 0x53000000 = .ok .rtFail ∧ decode 0x54000000 = .ok .rtPoll
      ∧ (s.rtStat.exh = true →
          exec .rtArm s = .next (ended .maxRetriesExceeded 0x51000000 s)
          ∧ exec .rtOk s = .next (ended .maxRetriesExceeded 0x52000000 s)
          ∧ exec .rtFail s = .next (ended .maxRetriesExceeded 0x53000000 s)
          ∧ exec .rtPoll s = .next (ended .maxRetriesExceeded 0x54000000 s))
      ∧ (s.rtStat.exh = false →
          let counted (e : Bool) : State := { s with rtStat := { cnt := s.rtStat.cnt + 1, armed := false, exh := e } }
          exec .rtArm s = .next (endedOk
            { s with rtDl := BitVec.ofNat 64 (s.now.toNat + s.rtTmo.toNat)
                     rtStat := { s.rtStat with armed := true } })
          ∧ exec .rtOk s = .next (endedOk { s with rtStat := { s.rtStat with cnt := 0, armed := false } })
          ∧ ((s.rtStat.cnt + 1).toNat < s.rtMax.toNat → exec .rtFail s = .next (endedOk (counted false)))
          ∧ (s.rtMax.toNat ≤ (s.rtStat.cnt + 1).toNat →
              exec .rtFail s = .next (ended .maxRetriesExceeded 0x53000000 (counted true)))
          ∧ (s.rtStat.armed = false ∨ s.now.toNat < s.rtDl.toNat → exec .rtPoll s = .next (endedOk s))
          ∧ (s.rtStat.armed = true → s.rtDl.toNat ≤ s.now.toNat →
              ((s.rtStat.cnt + 1).toNat < s.rtMax.toNat →
                exec .rtPoll s = .next (ended .timeout 0x54000000 (counted false)))
              ∧ (s.rtMax.toNat ≤ (s.rtStat.cnt + 1).toNat →
                exec .rtPoll s = .next (ended .maxRetriesExceeded 0x54000000 (counted true))))))

/-- Rests on spec/45_retry_timeout.md Laws and use (exactly-MAX law). From the state after RT.RST, with M the
larger of MAX and 1: any list of at most M failed attempts, each a corrupt response (RT.FAIL) or a wait that
really expires (RT.ARM, then RT.POLL no earlier than the deadline, below 2^64), completes with CNT the
number of attempts, not armed, EXH set exactly when they are M; the last one reports MaxRetriesExceeded
exactly when they are M, else Ok or Timeout; and after M, RT.ARM, RT.OK, RT.FAIL and RT.POLL at any time end
MaxRetriesExceeded and change nothing. The times of different attempts need not be in order: for a now that
decreases from one attempt to the next the spec claims no law, and the statement then says what the model
evaluates (log entry 2). -/
def Obligations.ExactlyMaxAttempts : Prop :=
  ∀ (s0 s : State) (fs : List Failure) (last : Failure),
    exec .rtRst s0 = .next s → (∀ f ∈ fs, failureReal s.rtTmo f) →
    fs.getLast? = some last → fs.length ≤ max s.rtMax.toNat 1 →
    ∃ t, countFailures fs s = .next t
      ∧ t.rtStat = { cnt := BitVec.ofNat 16 fs.length, armed := false
                     exh := decide (fs.length = max s.rtMax.toNat 1) }
      ∧ t.result = (if fs.length = max s.rtMax.toNat 1 then .maxRetriesExceeded else failureReport last)
      ∧ (fs.length = max s.rtMax.toNat 1 → ∀ (i : Instr) (n : Time),
          i ∈ [Instr.rtArm, .rtOk, .rtFail, .rtPoll] →
          exec i { t with now := n } = .next (ended .maxRetriesExceeded (encode i) { t with now := n }))

/-- Rests on spec/45_retry_timeout.md Laws and use (no silent stall). From any state that is armed and not
exhausted: a series of RT.POLL at given times, one of them at or after the deadline, has an outcome other
than Ok; every poll before the deadline gives Ok, and the first one at or after it gives Timeout or
MaxRetriesExceeded (a later one, with no RT.ARM between, may give Ok again). From any state of the
invariant, max(MAX, 1) or more failed attempts with no RT.OK between them complete with EXH set. The times
need not be in order: for a decreasing now the spec claims no law, and the statement then says what the
model evaluates (log entry 2). -/
def Obligations.NoSilentStall : Prop :=
  (∀ (s : State) (ts : List Time), s.rtStat.exh = false → s.rtStat.armed = true →
    (∃ n ∈ ts, s.rtDl.toNat ≤ n.toNat) → ∃ c ∈ pollOutcomes ts s, c ≠ .ok)
  ∧ (∀ (s : State) (before after : List Time) (n : Time), s.rtStat.exh = false → s.rtStat.armed = true →
    (∀ m ∈ before, m.toNat < s.rtDl.toNat) → s.rtDl.toNat ≤ n.toNat →
    ∃ (c : ResultCode) (rest : List ResultCode), (c = .timeout ∨ c = .maxRetriesExceeded)
      ∧ pollOutcomes (before ++ n :: after) s = List.replicate before.length .ok ++ c :: rest)
  ∧ (∀ (s : State) (fs : List Failure), s.Inv → (∀ f ∈ fs, failureReal s.rtTmo f) →
    max s.rtMax.toNat 1 ≤ fs.length → ∃ t, countFailures fs s = .next t ∧ t.rtStat.exh = true)

/-- Rests on spec/60_exceptions.md section 1 (the fifteen outcomes); spec/10_state.md section 2 (RESULT). The
fifteen result codes, each with its number and whether its class is fault (Ok has no class,
MaxRetriesExceeded and Timeout are of class result), are the rows of the table of outcomes, and there is no
other; a read of RESULT answers the number of the last outcome. EveryCommandEndsWithStatusUpdate and
FaultsArePrecise speak of these numbers and classes. -/
def Obligations.ResultCodeNumbersAndClasses : Prop :=
  let table : List (ResultCode × Byte × Bool) :=
    [(.ok, 0x00, false), (.checksumMismatch, 0x01, true), (.crcMismatch, 0x02, true),
     (.complementMismatch, 0x03, true), (.invalidBlockHeader, 0x04, true), (.invalidFrameType, 0x05, true),
     (.invalidFrameEncoding, 0x06, true), (.invalidEscape, 0x07, true), (.maxRetriesExceeded, 0x08, false),
     (.timeout, 0x09, false), (.incomplete, 0x10, true), (.overrun, 0x11, true), (.bufferFull, 0x12, true),
     (.bufferEmpty, 0x13, true), (.illegalCommand, 0x14, true)]
  (∀ row ∈ table, codeNumber row.1 = row.2.1 ∧ codeIsFault row.1 = row.2.2)
  ∧ (∀ c : ResultCode, c ∈ table.map Prod.fst)
  ∧ (∀ (s : State), ∀ row ∈ table, s.result = row.1 → regRead 0x04 s = row.2.1.setWidth 32)
end

