-- ==== Sys2Proof/Laws/State.lean ====
section
/-! SUPPORT. One lemma per field per named update of the state, true by definition: what `statusUpdate`,
`resetBlock`, `emit`, `setCheckValues`, `setYb0` and `State.withFetchWord` do to each field, so that no proof
unfolds a record update. -/

namespace Sys2Proof.Machine

/-! ## The status update (R273) -/

@[simp] theorem statusUpdate_result (w : Word) (c : ResultCode) (s : State) :
    (statusUpdate w c s).result = c := rfl
@[simp] theorem statusUpdate_errflags (w : Word) (c : ResultCode) (s : State) :
    (statusUpdate w c s).errflags = flagsAfter c s.errflags := rfl
@[simp] theorem statusUpdate_errinfo (w : Word) (c : ResultCode) (s : State) :
    (statusUpdate w c s).errinfo = if c = .ok then s.errinfo else w := rfl
@[simp] theorem statusUpdate_cfg (w : Word) (c : ResultCode) (s : State) :
    (statusUpdate w c s).cfg = s.cfg := rfl
@[simp] theorem statusUpdate_escmapLo (w : Word) (c : ResultCode) (s : State) :
    (statusUpdate w c s).escmapLo = s.escmapLo := rfl
@[simp] theorem statusUpdate_escmapHi (w : Word) (c : ResultCode) (s : State) :
    (statusUpdate w c s).escmapHi = s.escmapHi := rfl
@[simp] theorem statusUpdate_ck8 (w : Word) (c : ResultCode) (s : State) :
    (statusUpdate w c s).ck8 = s.ck8 := rfl
@[simp] theorem statusUpdate_crc16 (w : Word) (c : ResultCode) (s : State) :
    (statusUpdate w c s).crc16 = s.crc16 := rfl
@[simp] theorem statusUpdate_crc32Raw (w : Word) (c : ResultCode) (s : State) :
    (statusUpdate w c s).crc32Raw = s.crc32Raw := rfl
@[simp] theorem statusUpdate_zstate (w : Word) (c : ResultCode) (s : State) :
    (statusUpdate w c s).zstate = s.zstate := rfl
@[simp] theorem statusUpdate_txDesc (w : Word) (c : ResultCode) (s : State) :
    (statusUpdate w c s).txDesc = s.txDesc := rfl
@[simp] theorem statusUpdate_txZhdr (w : Word) (c : ResultCode) (s : State) :
    (statusUpdate w c s).txZhdr = s.txZhdr := rfl
@[simp] theorem statusUpdate_txYsize (w : Word) (c : ResultCode) (s : State) :
    (statusUpdate w c s).txYsize = s.txYsize := rfl
@[simp] theorem statusUpdate_txYmtime (w : Word) (c : ResultCode) (s : State) :
    (statusUpdate w c s).txYmtime = s.txYmtime := rfl
@[simp] theorem statusUpdate_txYmode (w : Word) (c : ResultCode) (s : State) :
    (statusUpdate w c s).txYmode = s.txYmode := rfl
@[simp] theorem statusUpdate_rxDesc (w : Word) (c : ResultCode) (s : State) :
    (statusUpdate w c s).rxDesc = s.rxDesc := rfl
@[simp] theorem statusUpdate_rxZhdr (w : Word) (c : ResultCode) (s : State) :
    (statusUpdate w c s).rxZhdr = s.rxZhdr := rfl
@[simp] theorem statusUpdate_rxYsize (w : Word) (c : ResultCode) (s : State) :
    (statusUpdate w c s).rxYsize = s.rxYsize := rfl
@[simp] theorem statusUpdate_rxYmtime (w : Word) (c : ResultCode) (s : State) :
    (statusUpdate w c s).rxYmtime = s.rxYmtime := rfl
@[simp] theorem statusUpdate_rxYmode (w : Word) (c : ResultCode) (s : State) :
    (statusUpdate w c s).rxYmode = s.rxYmode := rfl
@[simp] theorem statusUpdate_rxYnlen (w : Word) (c : ResultCode) (s : State) :
    (statusUpdate w c s).rxYnlen = s.rxYnlen := rfl
@[simp] theorem statusUpdate_rxCrcCalc (w : Word) (c : ResultCode) (s : State) :
    (statusUpdate w c s).rxCrcCalc = s.rxCrcCalc := rfl
@[simp] theorem statusUpdate_rxCrcRcvd (w : Word) (c : ResultCode) (s : State) :
    (statusUpdate w c s).rxCrcRcvd = s.rxCrcRcvd := rfl
@[simp] theorem statusUpdate_odata (w : Word) (c : ResultCode) (s : State) :
    (statusUpdate w c s).odata = s.odata := rfl
@[simp] theorem statusUpdate_rdata (w : Word) (c : ResultCode) (s : State) :
    (statusUpdate w c s).rdata = s.rdata := rfl
@[simp] theorem statusUpdate_rtMax (w : Word) (c : ResultCode) (s : State) :
    (statusUpdate w c s).rtMax = s.rtMax := rfl
@[simp] theorem statusUpdate_rtTmo (w : Word) (c : ResultCode) (s : State) :
    (statusUpdate w c s).rtTmo = s.rtTmo := rfl
@[simp] theorem statusUpdate_rtStat (w : Word) (c : ResultCode) (s : State) :
    (statusUpdate w c s).rtStat = s.rtStat := rfl
@[simp] theorem statusUpdate_rtDl (w : Word) (c : ResultCode) (s : State) :
    (statusUpdate w c s).rtDl = s.rtDl := rfl
@[simp] theorem statusUpdate_ibuf (w : Word) (c : ResultCode) (s : State) :
    (statusUpdate w c s).ibuf = s.ibuf := rfl
@[simp] theorem statusUpdate_obuf (w : Word) (c : ResultCode) (s : State) :
    (statusUpdate w c s).obuf = s.obuf := rfl
@[simp] theorem statusUpdate_txp (w : Word) (c : ResultCode) (s : State) :
    (statusUpdate w c s).txp = s.txp := rfl
@[simp] theorem statusUpdate_rxp (w : Word) (c : ResultCode) (s : State) :
    (statusUpdate w c s).rxp = s.rxp := rfl
@[simp] theorem statusUpdate_now (w : Word) (c : ResultCode) (s : State) :
    (statusUpdate w c s).now = s.now := rfl
@[simp] theorem statusUpdate_pending (w : Word) (c : ResultCode) (s : State) :
    (statusUpdate w c s).pending = s.pending := rfl
@[simp] theorem statusUpdate_readData (w : Word) (c : ResultCode) (s : State) :
    (statusUpdate w c s).readData = s.readData := rfl

/-! ## The block's reset (R300) -/

@[simp] theorem resetBlock_result (s : State) :
    (resetBlock s).result = State.reset.result := rfl
@[simp] theorem resetBlock_errflags (s : State) :
    (resetBlock s).errflags = State.reset.errflags := rfl
@[simp] theorem resetBlock_errinfo (s : State) :
    (resetBlock s).errinfo = State.reset.errinfo := rfl
@[simp] theorem resetBlock_cfg (s : State) :
    (resetBlock s).cfg = State.reset.cfg := rfl
@[simp] theorem resetBlock_escmapLo (s : State) :
    (resetBlock s).escmapLo = State.reset.escmapLo := rfl
@[simp] theorem resetBlock_escmapHi (s : State) :
    (resetBlock s).escmapHi = State.reset.escmapHi := rfl
@[simp] theorem resetBlock_ck8 (s : State) :
    (resetBlock s).ck8 = State.reset.ck8 := rfl
@[simp] theorem resetBlock_crc16 (s : State) :
    (resetBlock s).crc16 = State.reset.crc16 := rfl
@[simp] theorem resetBlock_crc32Raw (s : State) :
    (resetBlock s).crc32Raw = State.reset.crc32Raw := rfl
@[simp] theorem resetBlock_zstate (s : State) :
    (resetBlock s).zstate = State.reset.zstate := rfl
@[simp] theorem resetBlock_txDesc (s : State) :
    (resetBlock s).txDesc = State.reset.txDesc := rfl
@[simp] theorem resetBlock_txZhdr (s : State) :
    (resetBlock s).txZhdr = State.reset.txZhdr := rfl
@[simp] theorem resetBlock_txYsize (s : State) :
    (resetBlock s).txYsize = State.reset.txYsize := rfl
@[simp] theorem resetBlock_txYmtime (s : State) :
    (resetBlock s).txYmtime = State.reset.txYmtime := rfl
@[simp] theorem resetBlock_txYmode (s : State) :
    (resetBlock s).txYmode = State.reset.txYmode := rfl
@[simp] theorem resetBlock_rxDesc (s : State) :
    (resetBlock s).rxDesc = State.reset.rxDesc := rfl
@[simp] theorem resetBlock_rxZhdr (s : State) :
    (resetBlock s).rxZhdr = State.reset.rxZhdr := rfl
@[simp] theorem resetBlock_rxYsize (s : State) :
    (resetBlock s).rxYsize = State.reset.rxYsize := rfl
@[simp] theorem resetBlock_rxYmtime (s : State) :
    (resetBlock s).rxYmtime = State.reset.rxYmtime := rfl
@[simp] theorem resetBlock_rxYmode (s : State) :
    (resetBlock s).rxYmode = State.reset.rxYmode := rfl
@[simp] theorem resetBlock_rxYnlen (s : State) :
    (resetBlock s).rxYnlen = State.reset.rxYnlen := rfl
@[simp] theorem resetBlock_rxCrcCalc (s : State) :
    (resetBlock s).rxCrcCalc = State.reset.rxCrcCalc := rfl
@[simp] theorem resetBlock_rxCrcRcvd (s : State) :
    (resetBlock s).rxCrcRcvd = State.reset.rxCrcRcvd := rfl
@[simp] theorem resetBlock_odata (s : State) :
    (resetBlock s).odata = State.reset.odata := rfl
@[simp] theorem resetBlock_rdata (s : State) :
    (resetBlock s).rdata = State.reset.rdata := rfl
@[simp] theorem resetBlock_rtMax (s : State) :
    (resetBlock s).rtMax = State.reset.rtMax := rfl
@[simp] theorem resetBlock_rtTmo (s : State) :
    (resetBlock s).rtTmo = State.reset.rtTmo := rfl
@[simp] theorem resetBlock_rtStat (s : State) :
    (resetBlock s).rtStat = State.reset.rtStat := rfl
@[simp] theorem resetBlock_rtDl (s : State) :
    (resetBlock s).rtDl = State.reset.rtDl := rfl
@[simp] theorem resetBlock_ibuf (s : State) :
    (resetBlock s).ibuf = State.reset.ibuf := rfl
@[simp] theorem resetBlock_obuf (s : State) :
    (resetBlock s).obuf = State.reset.obuf := rfl
@[simp] theorem resetBlock_txp (s : State) :
    (resetBlock s).txp = State.reset.txp := rfl
@[simp] theorem resetBlock_rxp (s : State) :
    (resetBlock s).rxp = State.reset.rxp := rfl
@[simp] theorem resetBlock_now (s : State) :
    (resetBlock s).now = s.now := rfl
@[simp] theorem resetBlock_pending (s : State) :
    (resetBlock s).pending = s.pending := rfl
@[simp] theorem resetBlock_readData (s : State) :
    (resetBlock s).readData = s.readData := rfl

/-! ## Emitting (R144) -/

@[simp] theorem emit_result (w : List Byte) (s : State) :
    (emit w s).result = s.result := rfl
@[simp] theorem emit_errflags (w : List Byte) (s : State) :
    (emit w s).errflags = s.errflags := rfl
@[simp] theorem emit_errinfo (w : List Byte) (s : State) :
    (emit w s).errinfo = s.errinfo := rfl
@[simp] theorem emit_cfg (w : List Byte) (s : State) :
    (emit w s).cfg = s.cfg := rfl
@[simp] theorem emit_escmapLo (w : List Byte) (s : State) :
    (emit w s).escmapLo = s.escmapLo := rfl
@[simp] theorem emit_escmapHi (w : List Byte) (s : State) :
    (emit w s).escmapHi = s.escmapHi := rfl
@[simp] theorem emit_ck8 (w : List Byte) (s : State) :
    (emit w s).ck8 = s.ck8 := rfl
@[simp] theorem emit_crc16 (w : List Byte) (s : State) :
    (emit w s).crc16 = s.crc16 := rfl
@[simp] theorem emit_crc32Raw (w : List Byte) (s : State) :
    (emit w s).crc32Raw = s.crc32Raw := rfl
@[simp] theorem emit_zstate (w : List Byte) (s : State) :
    (emit w s).zstate = { s.zstate with zeLast := w.getLastD s.zstate.zeLast } := rfl
@[simp] theorem emit_txDesc (w : List Byte) (s : State) :
    (emit w s).txDesc = s.txDesc := rfl
@[simp] theorem emit_txZhdr (w : List Byte) (s : State) :
    (emit w s).txZhdr = s.txZhdr := rfl
@[simp] theorem emit_txYsize (w : List Byte) (s : State) :
    (emit w s).txYsize = s.txYsize := rfl
@[simp] theorem emit_txYmtime (w : List Byte) (s : State) :
    (emit w s).txYmtime = s.txYmtime := rfl
@[simp] theorem emit_txYmode (w : List Byte) (s : State) :
    (emit w s).txYmode = s.txYmode := rfl
@[simp] theorem emit_rxDesc (w : List Byte) (s : State) :
    (emit w s).rxDesc = s.rxDesc := rfl
@[simp] theorem emit_rxZhdr (w : List Byte) (s : State) :
    (emit w s).rxZhdr = s.rxZhdr := rfl
@[simp] theorem emit_rxYsize (w : List Byte) (s : State) :
    (emit w s).rxYsize = s.rxYsize := rfl
@[simp] theorem emit_rxYmtime (w : List Byte) (s : State) :
    (emit w s).rxYmtime = s.rxYmtime := rfl
@[simp] theorem emit_rxYmode (w : List Byte) (s : State) :
    (emit w s).rxYmode = s.rxYmode := rfl
@[simp] theorem emit_rxYnlen (w : List Byte) (s : State) :
    (emit w s).rxYnlen = s.rxYnlen := rfl
@[simp] theorem emit_rxCrcCalc (w : List Byte) (s : State) :
    (emit w s).rxCrcCalc = s.rxCrcCalc := rfl
@[simp] theorem emit_rxCrcRcvd (w : List Byte) (s : State) :
    (emit w s).rxCrcRcvd = s.rxCrcRcvd := rfl
@[simp] theorem emit_odata (w : List Byte) (s : State) :
    (emit w s).odata = s.odata := rfl
@[simp] theorem emit_rdata (w : List Byte) (s : State) :
    (emit w s).rdata = s.rdata := rfl
@[simp] theorem emit_rtMax (w : List Byte) (s : State) :
    (emit w s).rtMax = s.rtMax := rfl
@[simp] theorem emit_rtTmo (w : List Byte) (s : State) :
    (emit w s).rtTmo = s.rtTmo := rfl
@[simp] theorem emit_rtStat (w : List Byte) (s : State) :
    (emit w s).rtStat = s.rtStat := rfl
@[simp] theorem emit_rtDl (w : List Byte) (s : State) :
    (emit w s).rtDl = s.rtDl := rfl
@[simp] theorem emit_ibuf (w : List Byte) (s : State) :
    (emit w s).ibuf = s.ibuf := rfl
@[simp] theorem emit_obuf (w : List Byte) (s : State) :
    (emit w s).obuf = s.obuf ++ w := rfl
@[simp] theorem emit_txp (w : List Byte) (s : State) :
    (emit w s).txp = s.txp := rfl
@[simp] theorem emit_rxp (w : List Byte) (s : State) :
    (emit w s).rxp = s.rxp := rfl
@[simp] theorem emit_now (w : List Byte) (s : State) :
    (emit w s).now = s.now := rfl
@[simp] theorem emit_pending (w : List Byte) (s : State) :
    (emit w s).pending = s.pending := rfl
@[simp] theorem emit_readData (w : List Byte) (s : State) :
    (emit w s).readData = s.readData := rfl

/-! ## Recording check values (R41) -/

@[simp] theorem setCheckValues_result (a b : Word) (s : State) :
    (setCheckValues a b s).result = s.result := rfl
@[simp] theorem setCheckValues_errflags (a b : Word) (s : State) :
    (setCheckValues a b s).errflags = s.errflags := rfl
@[simp] theorem setCheckValues_errinfo (a b : Word) (s : State) :
    (setCheckValues a b s).errinfo = s.errinfo := rfl
@[simp] theorem setCheckValues_cfg (a b : Word) (s : State) :
    (setCheckValues a b s).cfg = s.cfg := rfl
@[simp] theorem setCheckValues_escmapLo (a b : Word) (s : State) :
    (setCheckValues a b s).escmapLo = s.escmapLo := rfl
@[simp] theorem setCheckValues_escmapHi (a b : Word) (s : State) :
    (setCheckValues a b s).escmapHi = s.escmapHi := rfl
@[simp] theorem setCheckValues_ck8 (a b : Word) (s : State) :
    (setCheckValues a b s).ck8 = s.ck8 := rfl
@[simp] theorem setCheckValues_crc16 (a b : Word) (s : State) :
    (setCheckValues a b s).crc16 = s.crc16 := rfl
@[simp] theorem setCheckValues_crc32Raw (a b : Word) (s : State) :
    (setCheckValues a b s).crc32Raw = s.crc32Raw := rfl
@[simp] theorem setCheckValues_zstate (a b : Word) (s : State) :
    (setCheckValues a b s).zstate = s.zstate := rfl
@[simp] theorem setCheckValues_txDesc (a b : Word) (s : State) :
    (setCheckValues a b s).txDesc = s.txDesc := rfl
@[simp] theorem setCheckValues_txZhdr (a b : Word) (s : State) :
    (setCheckValues a b s).txZhdr = s.txZhdr := rfl
@[simp] theorem setCheckValues_txYsize (a b : Word) (s : State) :
    (setCheckValues a b s).txYsize = s.txYsize := rfl
@[simp] theorem setCheckValues_txYmtime (a b : Word) (s : State) :
    (setCheckValues a b s).txYmtime = s.txYmtime := rfl
@[simp] theorem setCheckValues_txYmode (a b : Word) (s : State) :
    (setCheckValues a b s).txYmode = s.txYmode := rfl
@[simp] theorem setCheckValues_rxDesc (a b : Word) (s : State) :
    (setCheckValues a b s).rxDesc = s.rxDesc := rfl
@[simp] theorem setCheckValues_rxZhdr (a b : Word) (s : State) :
    (setCheckValues a b s).rxZhdr = s.rxZhdr := rfl
@[simp] theorem setCheckValues_rxYsize (a b : Word) (s : State) :
    (setCheckValues a b s).rxYsize = s.rxYsize := rfl
@[simp] theorem setCheckValues_rxYmtime (a b : Word) (s : State) :
    (setCheckValues a b s).rxYmtime = s.rxYmtime := rfl
@[simp] theorem setCheckValues_rxYmode (a b : Word) (s : State) :
    (setCheckValues a b s).rxYmode = s.rxYmode := rfl
@[simp] theorem setCheckValues_rxYnlen (a b : Word) (s : State) :
    (setCheckValues a b s).rxYnlen = s.rxYnlen := rfl
@[simp] theorem setCheckValues_rxCrcCalc (a b : Word) (s : State) :
    (setCheckValues a b s).rxCrcCalc = a := rfl
@[simp] theorem setCheckValues_rxCrcRcvd (a b : Word) (s : State) :
    (setCheckValues a b s).rxCrcRcvd = b := rfl
@[simp] theorem setCheckValues_odata (a b : Word) (s : State) :
    (setCheckValues a b s).odata = s.odata := rfl
@[simp] theorem setCheckValues_rdata (a b : Word) (s : State) :
    (setCheckValues a b s).rdata = s.rdata := rfl
@[simp] theorem setCheckValues_rtMax (a b : Word) (s : State) :
    (setCheckValues a b s).rtMax = s.rtMax := rfl
@[simp] theorem setCheckValues_rtTmo (a b : Word) (s : State) :
    (setCheckValues a b s).rtTmo = s.rtTmo := rfl
@[simp] theorem setCheckValues_rtStat (a b : Word) (s : State) :
    (setCheckValues a b s).rtStat = s.rtStat := rfl
@[simp] theorem setCheckValues_rtDl (a b : Word) (s : State) :
    (setCheckValues a b s).rtDl = s.rtDl := rfl
@[simp] theorem setCheckValues_ibuf (a b : Word) (s : State) :
    (setCheckValues a b s).ibuf = s.ibuf := rfl
@[simp] theorem setCheckValues_obuf (a b : Word) (s : State) :
    (setCheckValues a b s).obuf = s.obuf := rfl
@[simp] theorem setCheckValues_txp (a b : Word) (s : State) :
    (setCheckValues a b s).txp = s.txp := rfl
@[simp] theorem setCheckValues_rxp (a b : Word) (s : State) :
    (setCheckValues a b s).rxp = s.rxp := rfl
@[simp] theorem setCheckValues_now (a b : Word) (s : State) :
    (setCheckValues a b s).now = s.now := rfl
@[simp] theorem setCheckValues_pending (a b : Word) (s : State) :
    (setCheckValues a b s).pending = s.pending := rfl
@[simp] theorem setCheckValues_readData (a b : Word) (s : State) :
    (setCheckValues a b s).readData = s.readData := rfl

/-! ## The results of a block 0 (R224) -/

@[simp] theorem setYb0_result (f : Yb0Fields) (s : State) :
    (setYb0 f s).result = s.result := rfl
@[simp] theorem setYb0_errflags (f : Yb0Fields) (s : State) :
    (setYb0 f s).errflags = s.errflags := rfl
@[simp] theorem setYb0_errinfo (f : Yb0Fields) (s : State) :
    (setYb0 f s).errinfo = s.errinfo := rfl
@[simp] theorem setYb0_cfg (f : Yb0Fields) (s : State) :
    (setYb0 f s).cfg = s.cfg := rfl
@[simp] theorem setYb0_escmapLo (f : Yb0Fields) (s : State) :
    (setYb0 f s).escmapLo = s.escmapLo := rfl
@[simp] theorem setYb0_escmapHi (f : Yb0Fields) (s : State) :
    (setYb0 f s).escmapHi = s.escmapHi := rfl
@[simp] theorem setYb0_ck8 (f : Yb0Fields) (s : State) :
    (setYb0 f s).ck8 = s.ck8 := rfl
@[simp] theorem setYb0_crc16 (f : Yb0Fields) (s : State) :
    (setYb0 f s).crc16 = s.crc16 := rfl
@[simp] theorem setYb0_crc32Raw (f : Yb0Fields) (s : State) :
    (setYb0 f s).crc32Raw = s.crc32Raw := rfl
@[simp] theorem setYb0_zstate (f : Yb0Fields) (s : State) :
    (setYb0 f s).zstate = s.zstate := rfl
@[simp] theorem setYb0_txDesc (f : Yb0Fields) (s : State) :
    (setYb0 f s).txDesc = s.txDesc := rfl
@[simp] theorem setYb0_txZhdr (f : Yb0Fields) (s : State) :
    (setYb0 f s).txZhdr = s.txZhdr := rfl
@[simp] theorem setYb0_txYsize (f : Yb0Fields) (s : State) :
    (setYb0 f s).txYsize = s.txYsize := rfl
@[simp] theorem setYb0_txYmtime (f : Yb0Fields) (s : State) :
    (setYb0 f s).txYmtime = s.txYmtime := rfl
@[simp] theorem setYb0_txYmode (f : Yb0Fields) (s : State) :
    (setYb0 f s).txYmode = s.txYmode := rfl
@[simp] theorem setYb0_rxDesc (f : Yb0Fields) (s : State) :
    (setYb0 f s).rxDesc = { s.rxDesc with
      blk := 0
      yeob := f.eob
      ysizeP := decide (0 < f.numbers.length)
      ymtimeP := decide (1 < f.numbers.length)
      ymodeP := decide (2 < f.numbers.length)
      yovf := yb0Overflow f } := rfl
@[simp] theorem setYb0_rxZhdr (f : Yb0Fields) (s : State) :
    (setYb0 f s).rxZhdr = s.rxZhdr := rfl
@[simp] theorem setYb0_rxYsize (f : Yb0Fields) (s : State) :
    (setYb0 f s).rxYsize = yb0Value f 0 := rfl
@[simp] theorem setYb0_rxYmtime (f : Yb0Fields) (s : State) :
    (setYb0 f s).rxYmtime = yb0Value f 1 := rfl
@[simp] theorem setYb0_rxYmode (f : Yb0Fields) (s : State) :
    (setYb0 f s).rxYmode = yb0Value f 2 := rfl
@[simp] theorem setYb0_rxYnlen (f : Yb0Fields) (s : State) :
    (setYb0 f s).rxYnlen = BitVec.ofNat 8 f.nlen := rfl
@[simp] theorem setYb0_rxCrcCalc (f : Yb0Fields) (s : State) :
    (setYb0 f s).rxCrcCalc = s.rxCrcCalc := rfl
@[simp] theorem setYb0_rxCrcRcvd (f : Yb0Fields) (s : State) :
    (setYb0 f s).rxCrcRcvd = s.rxCrcRcvd := rfl
@[simp] theorem setYb0_odata (f : Yb0Fields) (s : State) :
    (setYb0 f s).odata = s.odata := rfl
@[simp] theorem setYb0_rdata (f : Yb0Fields) (s : State) :
    (setYb0 f s).rdata = s.rdata := rfl
@[simp] theorem setYb0_rtMax (f : Yb0Fields) (s : State) :
    (setYb0 f s).rtMax = s.rtMax := rfl
@[simp] theorem setYb0_rtTmo (f : Yb0Fields) (s : State) :
    (setYb0 f s).rtTmo = s.rtTmo := rfl
@[simp] theorem setYb0_rtStat (f : Yb0Fields) (s : State) :
    (setYb0 f s).rtStat = s.rtStat := rfl
@[simp] theorem setYb0_rtDl (f : Yb0Fields) (s : State) :
    (setYb0 f s).rtDl = s.rtDl := rfl
@[simp] theorem setYb0_ibuf (f : Yb0Fields) (s : State) :
    (setYb0 f s).ibuf = s.ibuf := rfl
@[simp] theorem setYb0_obuf (f : Yb0Fields) (s : State) :
    (setYb0 f s).obuf = s.obuf := rfl
@[simp] theorem setYb0_txp (f : Yb0Fields) (s : State) :
    (setYb0 f s).txp = s.txp := rfl
@[simp] theorem setYb0_rxp (f : Yb0Fields) (s : State) :
    (setYb0 f s).rxp = s.rxp := rfl
@[simp] theorem setYb0_now (f : Yb0Fields) (s : State) :
    (setYb0 f s).now = s.now := rfl
@[simp] theorem setYb0_pending (f : Yb0Fields) (s : State) :
    (setYb0 f s).pending = s.pending := rfl
@[simp] theorem setYb0_readData (f : Yb0Fields) (s : State) :
    (setYb0 f s).readData = s.readData := rfl

/-! ## Issuing a command word (log entry 1) -/

@[simp] theorem withFetchWord_result (s : State) (nbits w : Nat) :
    (s.withFetchWord nbits w).result = s.result := rfl
@[simp] theorem withFetchWord_errflags (s : State) (nbits w : Nat) :
    (s.withFetchWord nbits w).errflags = s.errflags := rfl
@[simp] theorem withFetchWord_errinfo (s : State) (nbits w : Nat) :
    (s.withFetchWord nbits w).errinfo = s.errinfo := rfl
@[simp] theorem withFetchWord_cfg (s : State) (nbits w : Nat) :
    (s.withFetchWord nbits w).cfg = s.cfg := rfl
@[simp] theorem withFetchWord_escmapLo (s : State) (nbits w : Nat) :
    (s.withFetchWord nbits w).escmapLo = s.escmapLo := rfl
@[simp] theorem withFetchWord_escmapHi (s : State) (nbits w : Nat) :
    (s.withFetchWord nbits w).escmapHi = s.escmapHi := rfl
@[simp] theorem withFetchWord_ck8 (s : State) (nbits w : Nat) :
    (s.withFetchWord nbits w).ck8 = s.ck8 := rfl
@[simp] theorem withFetchWord_crc16 (s : State) (nbits w : Nat) :
    (s.withFetchWord nbits w).crc16 = s.crc16 := rfl
@[simp] theorem withFetchWord_crc32Raw (s : State) (nbits w : Nat) :
    (s.withFetchWord nbits w).crc32Raw = s.crc32Raw := rfl
@[simp] theorem withFetchWord_zstate (s : State) (nbits w : Nat) :
    (s.withFetchWord nbits w).zstate = s.zstate := rfl
@[simp] theorem withFetchWord_txDesc (s : State) (nbits w : Nat) :
    (s.withFetchWord nbits w).txDesc = s.txDesc := rfl
@[simp] theorem withFetchWord_txZhdr (s : State) (nbits w : Nat) :
    (s.withFetchWord nbits w).txZhdr = s.txZhdr := rfl
@[simp] theorem withFetchWord_txYsize (s : State) (nbits w : Nat) :
    (s.withFetchWord nbits w).txYsize = s.txYsize := rfl
@[simp] theorem withFetchWord_txYmtime (s : State) (nbits w : Nat) :
    (s.withFetchWord nbits w).txYmtime = s.txYmtime := rfl
@[simp] theorem withFetchWord_txYmode (s : State) (nbits w : Nat) :
    (s.withFetchWord nbits w).txYmode = s.txYmode := rfl
@[simp] theorem withFetchWord_rxDesc (s : State) (nbits w : Nat) :
    (s.withFetchWord nbits w).rxDesc = s.rxDesc := rfl
@[simp] theorem withFetchWord_rxZhdr (s : State) (nbits w : Nat) :
    (s.withFetchWord nbits w).rxZhdr = s.rxZhdr := rfl
@[simp] theorem withFetchWord_rxYsize (s : State) (nbits w : Nat) :
    (s.withFetchWord nbits w).rxYsize = s.rxYsize := rfl
@[simp] theorem withFetchWord_rxYmtime (s : State) (nbits w : Nat) :
    (s.withFetchWord nbits w).rxYmtime = s.rxYmtime := rfl
@[simp] theorem withFetchWord_rxYmode (s : State) (nbits w : Nat) :
    (s.withFetchWord nbits w).rxYmode = s.rxYmode := rfl
@[simp] theorem withFetchWord_rxYnlen (s : State) (nbits w : Nat) :
    (s.withFetchWord nbits w).rxYnlen = s.rxYnlen := rfl
@[simp] theorem withFetchWord_rxCrcCalc (s : State) (nbits w : Nat) :
    (s.withFetchWord nbits w).rxCrcCalc = s.rxCrcCalc := rfl
@[simp] theorem withFetchWord_rxCrcRcvd (s : State) (nbits w : Nat) :
    (s.withFetchWord nbits w).rxCrcRcvd = s.rxCrcRcvd := rfl
@[simp] theorem withFetchWord_odata (s : State) (nbits w : Nat) :
    (s.withFetchWord nbits w).odata = s.odata := rfl
@[simp] theorem withFetchWord_rdata (s : State) (nbits w : Nat) :
    (s.withFetchWord nbits w).rdata = s.rdata := rfl
@[simp] theorem withFetchWord_rtMax (s : State) (nbits w : Nat) :
    (s.withFetchWord nbits w).rtMax = s.rtMax := rfl
@[simp] theorem withFetchWord_rtTmo (s : State) (nbits w : Nat) :
    (s.withFetchWord nbits w).rtTmo = s.rtTmo := rfl
@[simp] theorem withFetchWord_rtStat (s : State) (nbits w : Nat) :
    (s.withFetchWord nbits w).rtStat = s.rtStat := rfl
@[simp] theorem withFetchWord_rtDl (s : State) (nbits w : Nat) :
    (s.withFetchWord nbits w).rtDl = s.rtDl := rfl
@[simp] theorem withFetchWord_ibuf (s : State) (nbits w : Nat) :
    (s.withFetchWord nbits w).ibuf = s.ibuf := rfl
@[simp] theorem withFetchWord_obuf (s : State) (nbits w : Nat) :
    (s.withFetchWord nbits w).obuf = s.obuf := rfl
@[simp] theorem withFetchWord_txp (s : State) (nbits w : Nat) :
    (s.withFetchWord nbits w).txp = s.txp := rfl
@[simp] theorem withFetchWord_rxp (s : State) (nbits w : Nat) :
    (s.withFetchWord nbits w).rxp = s.rxp := rfl
@[simp] theorem withFetchWord_now (s : State) (nbits w : Nat) :
    (s.withFetchWord nbits w).now = s.now := rfl
@[simp] theorem withFetchWord_pending (s : State) (nbits w : Nat) :
    (s.withFetchWord nbits w).pending = commandAction s nbits w :: s.pending := rfl
@[simp] theorem withFetchWord_readData (s : State) (nbits w : Nat) :
    (s.withFetchWord nbits w).readData = s.readData := rfl

end Sys2Proof.Machine
end

