-- ==== Sys2Proof/Laws/Ops.lean ====
section
/-! SUPPORT. What each shared operation can do, said once: the ways a command ends, emitting, the counted
failure and the bus, and the encoded words. Later proofs cite these and do not unfold the operations. -/

namespace Sys2Proof.Machine

/-! ## How a command ends -/

theorem finish_ok (i : Instr) (s : State) : finish i .ok s = .next (endedOk s) := by
  simp [finish, statusUpdate, flagsAfter, endedOk]

theorem finish_other (i : Instr) (c : ResultCode) (s : State) (h : c ≠ .ok) :
    finish i c s = .next (ended c (encode i) s) := by
  rw [finish, statusUpdate, flagsAfter, if_neg h, if_neg h]
  rfl

theorem finishIllegal_eq (w : Word) (s : State) :
    finishIllegal w s = .next (ended .illegalCommand w s) := rfl

theorem finish_cases {i : Instr} {c : ResultCode} {s t : State} (h : finish i c s = .next t) :
    t.result = c ∧ ((c = .ok ∧ t = endedOk s) ∨ (c ≠ .ok ∧ t = ended c (encode i) s)) := by
  by_cases hc : c = .ok
  · subst hc
    rw [finish_ok] at h
    cases h
    exact ⟨rfl, .inl ⟨rfl, rfl⟩⟩
  · rw [finish_other i c s hc] at h
    cases h
    exact ⟨rfl, .inr ⟨hc, rfl⟩⟩

theorem resetBlock_ended_ok (s : State) : endedOk (resetBlock s) = resetBlock s := rfl

/-! ## Emitting (R144) -/

theorem emit_nil (s : State) : emit [] s = s := by
  simp [emit]

theorem emit_eq_emitted (w : List Byte) (s : State) : emit w s = emitted w s := by
  unfold emitted
  split
  · next h => subst h; exact emit_nil s
  · next h => simp [emit, List.getLastD_eq_getLast?, List.getLast?_eq_some_getLast h]

theorem finishEmit_fits (i : Instr) (w : List Byte) (s : State) (h : s.obuf.length + w.length ≤ 4096) :
    finishEmit i w s = .next (endedOk (emitted w s)) := by
  have : ¬ s.obuf.length + w.length > Config.obufCap := by simpa [Config.obufCap] using h
  rw [finishEmit, if_neg this, finish_ok, emit_eq_emitted]

theorem finishEmit_full (i : Instr) (w : List Byte) (s : State) (h : 4096 < s.obuf.length + w.length) :
    finishEmit i w s = .next (ended .bufferFull (encode i) s) := by
  have : s.obuf.length + w.length > Config.obufCap := by simpa [Config.obufCap] using h
  rw [finishEmit, if_pos this, finish_other _ _ _ (by decide)]

theorem finishEmit_cases {i : Instr} {w : List Byte} {s t : State} (h : finishEmit i w s = .next t) :
    (s.obuf.length + w.length ≤ 4096 ∧ t = endedOk (emitted w s))
    ∨ (4096 < s.obuf.length + w.length ∧ t = ended .bufferFull (encode i) s) := by
  rcases Nat.lt_or_ge 4096 (s.obuf.length + w.length) with hw | hw
  · rw [finishEmit_full i w s hw] at h
    cases h
    exact .inr ⟨hw, rfl⟩
  · rw [finishEmit_fits i w s hw] at h
    cases h
    exact .inl ⟨hw, rfl⟩

/-! ## The counted failure (R256) -/

theorem bump_below {max : Half} {r : RtStat} (hr : r.exh = false) (h : (r.cnt + 1).toNat < max.toNat) :
    bump max r = { cnt := r.cnt + 1, armed := false, exh := false } := by
  rw [bump, hr, decide_eq_false (by rw [BitVec.le_def]; omega)]
  rfl

theorem bump_reaches {max : Half} {r : RtStat} (h : max.toNat ≤ (r.cnt + 1).toNat) :
    bump max r = { cnt := r.cnt + 1, armed := false, exh := true } := by
  rw [bump, decide_eq_true (by rw [BitVec.le_def]; exact h), Bool.or_true]

/-! ## The bus and the step -/

theorem step_idle {s : State} (h : s.pending = []) : step s = .next s := by
  simp [step, h]

theorem step_pending {s : State} {a : HostAction} {rest : List HostAction} (h : s.pending = a :: rest) :
    step s = perform a.event { s with now := a.time, pending := rest } := by
  simp [step, h]

theorem accessAccepted_iff (off bytes : Nat) :
    accessAccepted off bytes = true ↔ bytes = 4 ∧ off % 4 = 0 ∧ off < 256 := by
  rw [accessAccepted, Bool.and_eq_true, Bool.and_eq_true, decide_eq_true_iff, decide_eq_true_iff,
    decide_eq_true_iff, and_assoc, Config.windowSize]

theorem perform_command {w : Word} {i : Instr} (s : State) (h : decode w = .ok i) :
    perform (.write 0 4 w) s = exec i s := by
  simp [perform, accessAccepted, Config.windowSize, busWrite, runCommand, h]

/-! ## The words of the commands with an operand -/

theorem countField_toNat (n : Nat) (h : n < 65536) : (countField n).toNat = n := by
  rw [countField, BitVec.toNat_append, BitVec.toNat_ofNat]
  simp [Nat.mod_eq_of_lt h]

theorem byteField_toNat (b : Byte) : (byteField b).toNat = b.toNat := by
  rw [byteField, BitVec.toNat_append]
  simp

theorem word_byte (op b : Byte) : (op ++ byteField b : Word) = op.setWidth 32 <<< 24 ||| b.setWidth 32 := by
  apply BitVec.eq_of_toNat_eq
  have h1 := op.isLt
  have h2 := b.isLt
  rw [BitVec.toNat_append, byteField_toNat, BitVec.toNat_or, BitVec.toNat_shiftLeft, BitVec.toNat_setWidth,
    BitVec.toNat_setWidth, Nat.mod_eq_of_lt (by omega : op.toNat < 2 ^ 32),
    Nat.mod_eq_of_lt (by omega : b.toNat < 2 ^ 32), Nat.shiftLeft_eq,
    Nat.mod_eq_of_lt (by omega : op.toNat * 2 ^ 24 < 2 ^ 32)]

theorem word_count (op : Byte) (n : Nat) (h : n < 65536) :
    (op ++ countField n : Word) = op.setWidth 32 <<< 24 ||| BitVec.ofNat 32 n := by
  apply BitVec.eq_of_toNat_eq
  have h1 := op.isLt
  rw [BitVec.toNat_append, countField_toNat n h, BitVec.toNat_or, BitVec.toNat_shiftLeft, BitVec.toNat_setWidth,
    BitVec.toNat_ofNat, Nat.mod_eq_of_lt (by omega : op.toNat < 2 ^ 32),
    Nat.mod_eq_of_lt (by omega : n < 2 ^ 32), Nat.shiftLeft_eq,
    Nat.mod_eq_of_lt (by omega : op.toNat * 2 ^ 24 < 2 ^ 32)]

theorem encode_ibPush (b : Byte) : encode (.ibPush b) = 0x02000000 ||| b.setWidth 32 := word_byte 0x02 b

theorem encode_obPush (b : Byte) : encode (.obPush b) = 0x06000000 ||| b.setWidth 32 := word_byte 0x06 b

theorem encode_tpPush (b : Byte) : encode (.tpPush b) = 0x09000000 ||| b.setWidth 32 := word_byte 0x09 b

theorem encode_ck8Upd (b : Byte) : encode (.ck8Upd b) = 0x11000000 ||| b.setWidth 32 := word_byte 0x11 b

theorem encode_c16Upd (b : Byte) : encode (.c16Upd b) = 0x14000000 ||| b.setWidth 32 := word_byte 0x14 b

theorem encode_c32Upd (b : Byte) : encode (.c32Upd b) = 0x17000000 ||| b.setWidth 32 := word_byte 0x17 b

theorem encode_zePut (b : Byte) : encode (.zePut b) = 0x21000000 ||| b.setWidth 32 := word_byte 0x21 b

theorem encode_zdPut (b : Byte) : encode (.zdPut b) = 0x25000000 ||| b.setWidth 32 := word_byte 0x25 b

theorem encode_ibDrop (n : Nat) (h : n < 65536) : encode (.ibDrop n) = 0x04000000 ||| BitVec.ofNat 32 n :=
  word_count 0x04 n h

end Sys2Proof.Machine
end

