-- ==== Sys2Proof/Laws/Codec.lean ====
section
/-! SUPPORT. What the pure functions of the checksum engine, the escape transform, the serializer and the
parser do, one lemma per case: the shapes later proofs match against. -/

namespace Sys2Proof.Machine

/-! ## Checksum engine (R153, R157) -/

/-- A shift of the CRC-16 register as one expression. -/
theorem crc16Shift_eq (c : Half) :
    crc16Shift c = (c <<< 1) ^^^ (if c.getLsbD 15 then Config.crc16Poly else 0) := by
  unfold crc16Shift
  split <;> simp

/-- A shift of the CRC-32 register as one expression. -/
theorem crc32Shift_eq (c : Word) :
    crc32Shift c = (c >>> 1) ^^^ (if c.getLsbD 0 then Config.crc32Poly else 0) := by
  unfold crc32Shift
  split <;> simp

/-- The CRC-16 shift is linear, which the table form of R154 rests on. -/
theorem crc16Shift_xor (a b : Half) : crc16Shift (a ^^^ b) = crc16Shift a ^^^ crc16Shift b := by
  rw [crc16Shift_eq, crc16Shift_eq, crc16Shift_eq, BitVec.shiftLeft_xor_distrib, BitVec.getLsbD_xor]
  apply BitVec.eq_of_getLsbD_eq
  intro i _
  cases a.getLsbD 15 <;> cases b.getLsbD 15 <;>
    simp [-BitVec.getLsbD_shiftLeft, Bool.xor_comm, Bool.xor_left_comm]

/-- The CRC-32 shift is linear, which the table form of R158 rests on. -/
theorem crc32Shift_xor (a b : Word) : crc32Shift (a ^^^ b) = crc32Shift a ^^^ crc32Shift b := by
  rw [crc32Shift_eq, crc32Shift_eq, crc32Shift_eq, BitVec.ushiftRight_xor_distrib, BitVec.getLsbD_xor]
  apply BitVec.eq_of_getLsbD_eq
  intro i _
  cases a.getLsbD 0 <;> cases b.getLsbD 0 <;>
    simp [-BitVec.getLsbD_ushiftRight, Bool.xor_comm, Bool.xor_left_comm]

theorem crc16_cons (b : Byte) (d : List Byte) (c : Half) : crc16 (b :: d) c = crc16 d (crc16Step c b) := rfl

theorem crc32Raw_cons (b : Byte) (d : List Byte) (c : Word) :
    crc32Raw (b :: d) c = crc32Raw d (crc32Step c b) := rfl

theorem ck8_cons (b : Byte) (d : List Byte) (s : Byte) : ck8 (b :: d) s = ck8 d (s + b) := rfl

/-! ## Escape transform (R171 to R177) -/

/-- An escapable byte, XORed, is in the valid escape set and is not the introducer, and the decoder's XOR
gives it back. -/
theorem escapable_xor : ∀ b : Byte, escapable b = true →
    validEscape (b ^^^ Config.escXor) = true ∧ b ^^^ Config.escXor ^^^ Config.escXor = b := by
  decide +kernel

/-- The introducer is always escaped when its bit is 1 (R29, R173). -/
theorem escNeeded_zdle (map : BitVec 64) (crctx : Bool) (last : Byte) (h : map.getLsbD 24 = true) :
    escNeeded map crctx Config.zdle last = true := by
  have h1 : escapable Config.zdle = true := by decide
  have h2 : escapeIndex Config.zdle = 24 := by decide
  simp [escNeeded, inEscapeSet, h1, h2, h]

/-- The reserved map bit as every reader sees it (R29). -/
theorem escmap_introducer (s : State) : (escmap s).getLsbD 24 = true := by
  rw [escmap, BitVec.getLsbD_append, escmapLoRead, BitVec.getLsbD_or]
  simp [show escmapHardwired.getLsbD 24 = true from rfl]

theorem zenc1_escaped {map : BitVec 64} {crctx : Bool} {b last : Byte}
    (h : escNeeded map crctx b last = true) :
    zenc1 map crctx b last = ([Config.zdle, b ^^^ Config.escXor], b ^^^ Config.escXor) := by
  rw [zenc1, if_pos h]

theorem zenc1_plain {map : BitVec 64} {crctx : Bool} {b last : Byte}
    (h : escNeeded map crctx b last = false) : zenc1 map crctx b last = ([b], b) := by
  simp [zenc1, h]

/-- Each logical byte takes one or two wire bytes. -/
theorem zenc_length (map : BitVec 64) (crctx : Bool) (d : List Byte) : ∀ last : Byte,
    d.length ≤ (zenc map crctx last d).1.length ∧ (zenc map crctx last d).1.length ≤ 2 * d.length := by
  induction d with
  | nil => simp [zenc]
  | cons b d ih =>
    intro last
    have := ih (zenc1 map crctx b last).2
    have h : 1 ≤ (zenc1 map crctx b last).1.length ∧ (zenc1 map crctx b last).1.length ≤ 2 := by
      unfold zenc1
      split <;> simp
    simp only [zenc, List.length_append, List.length_cons]
    omega

theorem zdStep_pending_bad {b : Byte} (h : validEscape b = false) : zdStep true b = .error .invalidEscape := by
  simp [zdStep, h]

theorem zdStep_pending {b : Byte} (h : validEscape b = true) :
    zdStep true b = .ok (some (b ^^^ Config.escXor), false) := by
  simp [zdStep, h]

theorem zdStep_introducer : zdStep false Config.zdle = .ok (none, true) := by
  simp [zdStep]

theorem zdStep_plain {b : Byte} (h : b ≠ Config.zdle) : zdStep false b = .ok (some b, false) := by
  simp [zdStep, h]

/-- What `zdStep` can answer: the one error is `InvalidEscape`. -/
theorem zdStep_error {p : Bool} {b : Byte} {c : ResultCode} (h : zdStep p b = .error c) :
    p = true ∧ validEscape b = false ∧ c = .invalidEscape := by
  unfold zdStep at h
  split at h
  · next hp =>
    split at h
    · cases h
    · next hv =>
      cases h
      exact ⟨hp, by simpa using hv, rfl⟩
  · split at h <;> cases h

/-! ## Serializer and parser (R192 to R233) -/

theorem padTo_length {n : Nat} {d : List Byte} (pad : Byte) (h : d.length ≤ n) :
    (padTo n pad d).length = n := by
  simp [padTo]
  omega

/-- The parser's reading of a hex digit inverts the serializer's (R204, R229). -/
theorem hexval_hexDigit : ∀ n : BitVec 4, hexval (hexDigit n) = some n.toNat := by
  decide

theorem unescNext_plain {b : Byte} (w : List Byte) (h : b ≠ Config.zdle) : unescNext (b :: w) = .ok (b, w) := by
  simp [unescNext, h]

theorem unescNext_escape {c : Byte} (w : List Byte) (h : validEscape c = true) :
    unescNext (Config.zdle :: c :: w) = .ok (c ^^^ Config.escXor, w) := by
  simp [unescNext, h]

theorem unescNext_bad {c : Byte} (w : List Byte) (h : validEscape c = false) :
    unescNext (Config.zdle :: c :: w) = .error .invalidEscape := by
  simp [unescNext, h]

/-- What `scanBlock` answers on a block that is there: the complement byte decides (R222). -/
theorem scanBlock_ok {v : XVariant} {w : List Byte} {u : ScannedBlock} (h : scanBlock v w = .ok u) :
    blockLength v ≤ w.length ∧ u.number = byteAt w 1 ∧ u.payload = (w.drop 3).take (blockSize v)
      ∧ u.computed = blockCheck v u.payload ∧ u.received = trailerCheck v w (3 + blockSize v)
      ∧ u.rest = w.drop (blockLength v) := by
  unfold scanBlock at h
  split at h
  · cases h
  · split at h
    · cases h
    · split at h
      · cases h
      · next hl =>
        split at h
        · cases h
        · cases h
          exact ⟨Nat.le_of_not_lt hl, rfl, rfl, rfl, rfl, rfl⟩

theorem scanBlock_payload_length {v : XVariant} {w : List Byte} {u : ScannedBlock}
    (h : scanBlock v w = .ok u) : u.payload.length = blockSize v := by
  obtain ⟨hl, -, hp, -⟩ := scanBlock_ok h
  rw [hp, List.length_take, List.length_drop]
  unfold blockLength trailerLength at hl
  cases v <;> simp [blockSize, Config.xblkSmall, Config.xblkLarge] at hl ⊢ <;> omega

/-- The codes `scanBlock` can answer (R221, R272). -/
theorem scanBlock_error {v : XVariant} {w : List Byte} {c : ResultCode} (h : scanBlock v w = .error c) :
    c = .incomplete ∨ c = .invalidBlockHeader ∨ c = .complementMismatch := by
  unfold scanBlock at h
  split at h
  · cases h; exact .inl rfl
  · split at h
    · cases h; exact .inr (.inl rfl)
    · split at h
      · cases h; exact .inl rfl
      · split at h
        · cases h; exact .inr (.inr rfl)
        · cases h

/-- A payload byte in front of a scan keeps its error and lengthens its payload. -/
theorem consPayload_ok {b : Byte} {x : Except ResultCode (List Byte × Byte × List Byte)}
    {d : List Byte} {m : Byte} {rest : List Byte} (h : consPayload b x = .ok (d, m, rest)) :
    ∃ d', x = .ok (d', m, rest) ∧ d = b :: d' := by
  cases x with
  | error c => cases h
  | ok y =>
    obtain ⟨d', m', rest'⟩ := y
    cases h
    exact ⟨d', rfl, rfl⟩

end Sys2Proof.Machine
end

