-- ==== Sys2Proof/Laws/PerInstr.lean ====
section
/-! SUPPORT. The statements made for every command separately: family `EncodingLayout`, that the word the
encoder writes is the word of the command's row in the spec's opcode map (spec/30_encoding.md R111 to R113). -/

namespace Sys2Proof.Laws

open Sys2Proof Sys2Proof.Machine

/-- A format-B word matches its row, and the row reads the operand back (R111, R112). -/
theorem row_byte (op b : Byte) (f : Byte → Instr) :
    Matches (op ++ byteField b) ⟨op, .byte f⟩ ∧ formCommand (op ++ byteField b) (.byte f) = f b := by
  constructor
  · show (op ++ byteField b : Word) &&& 0xFFFFFF00#32 = op.setWidth 32 <<< 24
    rw [word_byte, BitVec.and_or_distrib_right]
    have h1 : (op.setWidth 32 <<< 24 : Word) &&& 0xFFFFFF00#32 = op.setWidth 32 <<< 24 := by
      revert op
      decide +kernel
    have h2 : b.setWidth 32 &&& 0xFFFFFF00#32 = 0 := by
      revert b
      decide +kernel
    rw [h1, h2]
    simp
  · show f ((op ++ byteField b : Word).setWidth 8) = f b
    congr 1
    apply BitVec.eq_of_toNat_eq
    rw [BitVec.toNat_setWidth, word_byte]
    rw [← BitVec.toNat_setWidth]
    congr 1
    rw [BitVec.setWidth_or]
    have h1 : (op.setWidth 32 <<< 24 : Word).setWidth 8 = 0 := by
      revert op
      decide +kernel
    have h2 : (b.setWidth 32).setWidth 8 = b := by
      revert b
      decide +kernel
    rw [h1, h2]
    simp

/-- A format-H word matches its row, and the row reads the operand back (R111, R112). -/
theorem row_count (op : Byte) (n : Nat) (h : n < 65536) (f : Nat → Instr) :
    Matches (op ++ countField n) ⟨op, .half f⟩ ∧ formCommand (op ++ countField n) (.half f) = f n := by
  have e : (op ++ countField n : Word).toNat = op.toNat <<< 24 ||| n := by
    rw [BitVec.toNat_append, countField_toNat n h]
  constructor
  · show (op ++ countField n : Word) &&& 0xFFFF0000#32 = op.setWidth 32 <<< 24
    rw [word_count op n h, BitVec.and_or_distrib_right]
    have h1 : (op.setWidth 32 <<< 24 : Word) &&& 0xFFFF0000#32 = op.setWidth 32 <<< 24 := by
      clear e
      revert op
      decide +kernel
    have h2 : BitVec.ofNat 32 n &&& 0xFFFF0000#32 = 0 := by
      apply BitVec.eq_of_toNat_eq
      rw [BitVec.toNat_and, BitVec.toNat_ofNat, Nat.mod_eq_of_lt (by omega : n < 2 ^ 32)]
      apply Nat.eq_of_testBit_eq
      intro i
      rw [Nat.testBit_and, show (0xFFFF0000#32).toNat = 0xFFFF <<< 16 from rfl, Nat.testBit_shiftLeft]
      rcases Nat.lt_or_ge i 16 with hi | hi
      · simp [Nat.not_le.mpr hi]
      · simp [Nat.testBit_lt_two_pow (lt_of_lt_of_le h (Nat.pow_le_pow_right (by decide) hi : 2 ^ 16 ≤ 2 ^ i))]
    rw [h1, h2]
    simp
  · show f ((op ++ countField n : Word).toNat % 65536) = f n
    congr 1
    rw [e]
    have := Nat.or_mod_two_pow (a := op.toNat <<< 24) (b := n) (n := 16)
    norm_num at this
    rw [this, Nat.shiftLeft_eq, Nat.mod_eq_of_lt h]
    have h3 : op.toNat * 2 ^ 24 % 65536 = 0 := by omega
    rw [h3]
    simp

/-- The encoder's word of a well-formed command matches a row of the opcode map, and that row names the
command with its operand (R112, R113). -/
def EncodingLayout.Statement (i : Instr) : Prop :=
  i.wellFormed = true → ∃ r ∈ opcodeMap, Matches (encode i) r ∧ formCommand (encode i) r.form = i

theorem EncodingLayout.nop : EncodingLayout.Statement .nop := fun _ =>
  ⟨⟨0x00, .none .nop⟩, by simp [opcodeMap, opcodeMapSystem], by decide, rfl⟩

theorem EncodingLayout.srst : EncodingLayout.Statement .srst := fun _ =>
  ⟨⟨0x01, .none .srst⟩, by simp [opcodeMap, opcodeMapSystem], by decide, rfl⟩

theorem EncodingLayout.ibPush (b : Byte) : EncodingLayout.Statement (.ibPush b) := fun _ =>
  ⟨⟨0x02, .byte .ibPush⟩, by simp [opcodeMap, opcodeMapSystem], row_byte 0x02 b .ibPush⟩

theorem EncodingLayout.ibClr : EncodingLayout.Statement .ibClr := fun _ =>
  ⟨⟨0x03, .none .ibClr⟩, by simp [opcodeMap, opcodeMapSystem], by decide, rfl⟩

theorem EncodingLayout.ibDrop (n : Nat) : EncodingLayout.Statement (.ibDrop n) := fun h =>
  ⟨⟨0x04, .half .ibDrop⟩, by simp [opcodeMap, opcodeMapSystem], row_count 0x04 n (of_decide_eq_true h) .ibDrop⟩

theorem EncodingLayout.ibHunt : EncodingLayout.Statement .ibHunt := fun _ =>
  ⟨⟨0x05, .none .ibHunt⟩, by simp [opcodeMap, opcodeMapSystem], by decide, rfl⟩

theorem EncodingLayout.obPush (b : Byte) : EncodingLayout.Statement (.obPush b) := fun _ =>
  ⟨⟨0x06, .byte .obPush⟩, by simp [opcodeMap, opcodeMapSystem], row_byte 0x06 b .obPush⟩

theorem EncodingLayout.obPop : EncodingLayout.Statement .obPop := fun _ =>
  ⟨⟨0x07, .none .obPop⟩, by simp [opcodeMap, opcodeMapSystem], by decide, rfl⟩

theorem EncodingLayout.obClr : EncodingLayout.Statement .obClr := fun _ =>
  ⟨⟨0x08, .none .obClr⟩, by simp [opcodeMap, opcodeMapSystem], by decide, rfl⟩

theorem EncodingLayout.tpPush (b : Byte) : EncodingLayout.Statement (.tpPush b) := fun _ =>
  ⟨⟨0x09, .byte .tpPush⟩, by simp [opcodeMap, opcodeMapSystem], row_byte 0x09 b .tpPush⟩

theorem EncodingLayout.tpClr : EncodingLayout.Statement .tpClr := fun _ =>
  ⟨⟨0x0A, .none .tpClr⟩, by simp [opcodeMap, opcodeMapSystem], by decide, rfl⟩

theorem EncodingLayout.rpPop : EncodingLayout.Statement .rpPop := fun _ =>
  ⟨⟨0x0B, .none .rpPop⟩, by simp [opcodeMap, opcodeMapSystem], by decide, rfl⟩

theorem EncodingLayout.rpClr : EncodingLayout.Statement .rpClr := fun _ =>
  ⟨⟨0x0C, .none .rpClr⟩, by simp [opcodeMap, opcodeMapSystem], by decide, rfl⟩

theorem EncodingLayout.ck8Init : EncodingLayout.Statement .ck8Init := fun _ =>
  ⟨⟨0x10, .none .ck8Init⟩, by simp [opcodeMap, opcodeMapChecksum], by decide, rfl⟩

theorem EncodingLayout.ck8Upd (b : Byte) : EncodingLayout.Statement (.ck8Upd b) := fun _ =>
  ⟨⟨0x11, .byte .ck8Upd⟩, by simp [opcodeMap, opcodeMapChecksum], row_byte 0x11 b .ck8Upd⟩

theorem EncodingLayout.ck8Buf : EncodingLayout.Statement .ck8Buf := fun _ =>
  ⟨⟨0x12, .none .ck8Buf⟩, by simp [opcodeMap, opcodeMapChecksum], by decide, rfl⟩

theorem EncodingLayout.c16Init : EncodingLayout.Statement .c16Init := fun _ =>
  ⟨⟨0x13, .none .c16Init⟩, by simp [opcodeMap, opcodeMapChecksum], by decide, rfl⟩

theorem EncodingLayout.c16Upd (b : Byte) : EncodingLayout.Statement (.c16Upd b) := fun _ =>
  ⟨⟨0x14, .byte .c16Upd⟩, by simp [opcodeMap, opcodeMapChecksum], row_byte 0x14 b .c16Upd⟩

theorem EncodingLayout.c16Buf : EncodingLayout.Statement .c16Buf := fun _ =>
  ⟨⟨0x15, .none .c16Buf⟩, by simp [opcodeMap, opcodeMapChecksum], by decide, rfl⟩

theorem EncodingLayout.c32Init : EncodingLayout.Statement .c32Init := fun _ =>
  ⟨⟨0x16, .none .c32Init⟩, by simp [opcodeMap, opcodeMapChecksum], by decide, rfl⟩

theorem EncodingLayout.c32Upd (b : Byte) : EncodingLayout.Statement (.c32Upd b) := fun _ =>
  ⟨⟨0x17, .byte .c32Upd⟩, by simp [opcodeMap, opcodeMapChecksum], row_byte 0x17 b .c32Upd⟩

theorem EncodingLayout.c32Buf : EncodingLayout.Statement .c32Buf := fun _ =>
  ⟨⟨0x18, .none .c32Buf⟩, by simp [opcodeMap, opcodeMapChecksum], by decide, rfl⟩

theorem EncodingLayout.zeRst : EncodingLayout.Statement .zeRst := fun _ =>
  ⟨⟨0x20, .none .zeRst⟩, by simp [opcodeMap, opcodeMapEscape], by decide, rfl⟩

theorem EncodingLayout.zePut (b : Byte) : EncodingLayout.Statement (.zePut b) := fun _ =>
  ⟨⟨0x21, .byte .zePut⟩, by simp [opcodeMap, opcodeMapEscape], row_byte 0x21 b .zePut⟩

theorem EncodingLayout.zeBuf : EncodingLayout.Statement .zeBuf := fun _ =>
  ⟨⟨0x22, .none .zeBuf⟩, by simp [opcodeMap, opcodeMapEscape], by decide, rfl⟩

theorem EncodingLayout.zdRst : EncodingLayout.Statement .zdRst := fun _ =>
  ⟨⟨0x24, .none .zdRst⟩, by simp [opcodeMap, opcodeMapEscape], by decide, rfl⟩

theorem EncodingLayout.zdPut (b : Byte) : EncodingLayout.Statement (.zdPut b) := fun _ =>
  ⟨⟨0x25, .byte .zdPut⟩, by simp [opcodeMap, opcodeMapEscape], row_byte 0x25 b .zdPut⟩

theorem EncodingLayout.zdEnd : EncodingLayout.Statement .zdEnd := fun _ =>
  ⟨⟨0x26, .none .zdEnd⟩, by simp [opcodeMap, opcodeMapEscape], by decide, rfl⟩

theorem EncodingLayout.zdBuf : EncodingLayout.Statement .zdBuf := fun _ =>
  ⟨⟨0x27, .none .zdBuf⟩, by simp [opcodeMap, opcodeMapEscape], by decide, rfl⟩

theorem EncodingLayout.fsXblk : EncodingLayout.Statement .fsXblk := fun _ =>
  ⟨⟨0x30, .none .fsXblk⟩, by simp [opcodeMap, opcodeMapSerializer], by decide, rfl⟩

theorem EncodingLayout.fsYb0 : EncodingLayout.Statement .fsYb0 := fun _ =>
  ⟨⟨0x31, .none .fsYb0⟩, by simp [opcodeMap, opcodeMapSerializer], by decide, rfl⟩

theorem EncodingLayout.fsYeob : EncodingLayout.Statement .fsYeob := fun _ =>
  ⟨⟨0x32, .none .fsYeob⟩, by simp [opcodeMap, opcodeMapSerializer], by decide, rfl⟩

theorem EncodingLayout.fsZhdr : EncodingLayout.Statement .fsZhdr := fun _ =>
  ⟨⟨0x33, .none .fsZhdr⟩, by simp [opcodeMap, opcodeMapSerializer], by decide, rfl⟩

theorem EncodingLayout.fsZdat : EncodingLayout.Statement .fsZdat := fun _ =>
  ⟨⟨0x34, .none .fsZdat⟩, by simp [opcodeMap, opcodeMapSerializer], by decide, rfl⟩

theorem EncodingLayout.fpXblk : EncodingLayout.Statement .fpXblk := fun _ =>
  ⟨⟨0x40, .none .fpXblk⟩, by simp [opcodeMap, opcodeMapParser], by decide, rfl⟩

theorem EncodingLayout.fpYb0 : EncodingLayout.Statement .fpYb0 := fun _ =>
  ⟨⟨0x41, .none .fpYb0⟩, by simp [opcodeMap, opcodeMapParser], by decide, rfl⟩

theorem EncodingLayout.fpZhdr : EncodingLayout.Statement .fpZhdr := fun _ =>
  ⟨⟨0x42, .none .fpZhdr⟩, by simp [opcodeMap, opcodeMapParser], by decide, rfl⟩

theorem EncodingLayout.fpZdat : EncodingLayout.Statement .fpZdat := fun _ =>
  ⟨⟨0x43, .none .fpZdat⟩, by simp [opcodeMap, opcodeMapParser], by decide, rfl⟩

theorem EncodingLayout.rtRst : EncodingLayout.Statement .rtRst := fun _ =>
  ⟨⟨0x50, .none .rtRst⟩, by simp [opcodeMap, opcodeMapRetry], by decide, rfl⟩

theorem EncodingLayout.rtArm : EncodingLayout.Statement .rtArm := fun _ =>
  ⟨⟨0x51, .none .rtArm⟩, by simp [opcodeMap, opcodeMapRetry], by decide, rfl⟩

theorem EncodingLayout.rtOk : EncodingLayout.Statement .rtOk := fun _ =>
  ⟨⟨0x52, .none .rtOk⟩, by simp [opcodeMap, opcodeMapRetry], by decide, rfl⟩

theorem EncodingLayout.rtFail : EncodingLayout.Statement .rtFail := fun _ =>
  ⟨⟨0x53, .none .rtFail⟩, by simp [opcodeMap, opcodeMapRetry], by decide, rfl⟩

theorem EncodingLayout.rtPoll : EncodingLayout.Statement .rtPoll := fun _ =>
  ⟨⟨0x54, .none .rtPoll⟩, by simp [opcodeMap, opcodeMapRetry], by decide, rfl⟩

end Sys2Proof.Laws
end

