-- ==== Sys2Proof/Tests/Slice0.lean ====
section
/-! SUPPORT. Small tests of the model against the values of spec/95_test_vectors.md (Vn.m in a comment) and of
the rules (R n), each one step on a small state; the ill-formed term that WellFormed refuses; and, for every
obligation with hypotheses, a witness that meets them all together. -/

namespace Sys2Proof.Tests

set_option Elab.async false

open Sys2Proof Sys2Proof.Machine

/-! ## Helpers -/

/-- The state an outcome holds, if it is a next state. -/
def next? : Result → Option State
  | .next t => some t
  | .fault _ => none
  | .refused _ => none

/-- The state an outcome holds; the reset state if it holds none. -/
def nextD (r : Result) : State := (next? r).getD State.reset

theorem next_of_isSome {r : Result} (h : (next? r).isSome = true) : r = .next (nextD r) := by
  cases r with
  | next t => rfl
  | fault e => cases h
  | refused e => cases h

/-- The host writes a word to `CMD`. -/
def command (w : Word) : HostAction := { time := 7, event := .write 0x00 4 w }

/-- The reset state with one pending action. -/
def withAction (a : HostAction) : State := { State.reset with pending := [a] }

/-- The reset state with bytes in `IBUF`. -/
def withIbuf (w : List Byte) : State := { State.reset with ibuf := w }

/-- The reset state with bytes in `TXP`. -/
def withTxp (d : List Byte) : State := { State.reset with txp := d }

/-- "Hello". -/
def hello : List Byte := [0x48, 0x65, 0x6C, 0x6C, 0x6F]

/-- The payload "Hello" of a block, padded (R193). -/
def helloPayload : List Byte := hello ++ List.replicate 123 0x1A

/-- The payload of V5.11: `foo 00 "123" 00`. -/
def fooPayload : List Byte := [0x66, 0x6F, 0x6F, 0x00, 0x31, 0x32, 0x33] ++ List.replicate 121 0x00

/-- The block of V5.11. -/
def fooBlock : List Byte := [0x01, 0x00, 0xFF] ++ fooPayload ++ [0xB9, 0xC4]

/-- The sender of V4.1. -/
def helloSender : State :=
  { withTxp hello with
    cfg := { State.reset.cfg with xvar := .crc }
    txDesc := { State.reset.txDesc with blk := 0x01 } }

/-! ## WellFormed, decoder and encoder -/

theorem test_count_65536_is_ill_formed : (Instr.ibDrop 65536).wellFormed = false := by decide

theorem test_count_65535_is_well_formed : (Instr.ibDrop 65535).wellFormed = true := by decide

-- The words are written out from R111 and R113: OP in bits 31:24, zeros, the operand in the low bits.
theorem test_words_system :
    decode 0x00000000 = .ok .nop ∧ decode 0x01000000 = .ok .srst ∧ decode 0x02000041 = .ok (.ibPush 0x41)
    ∧ decode 0x03000000 = .ok .ibClr ∧ decode 0x04001388 = .ok (.ibDrop 5000)
    ∧ decode 0x05000000 = .ok .ibHunt ∧ decode 0x06000040 = .ok (.obPush 0x40)
    ∧ decode 0x07000000 = .ok .obPop ∧ decode 0x08000000 = .ok .obClr ∧ decode 0x090000FF = .ok (.tpPush 0xFF)
    ∧ decode 0x0A000000 = .ok .tpClr ∧ decode 0x0B000000 = .ok .rpPop ∧ decode 0x0C000000 = .ok .rpClr := by
  decide

theorem test_words_checksum :
    decode 0x10000000 = .ok .ck8Init ∧ decode 0x11000080 = .ok (.ck8Upd 0x80) ∧ decode 0x12000000 = .ok .ck8Buf
    ∧ decode 0x13000000 = .ok .c16Init ∧ decode 0x14000001 = .ok (.c16Upd 0x01)
    ∧ decode 0x15000000 = .ok .c16Buf ∧ decode 0x16000000 = .ok .c32Init
    ∧ decode 0x17000010 = .ok (.c32Upd 0x10) ∧ decode 0x18000000 = .ok .c32Buf := by
  decide

theorem test_words_escape :
    decode 0x20000000 = .ok .zeRst ∧ decode 0x21000018 = .ok (.zePut 0x18) ∧ decode 0x22000000 = .ok .zeBuf
    ∧ decode 0x24000000 = .ok .zdRst ∧ decode 0x25000058 = .ok (.zdPut 0x58) ∧ decode 0x26000000 = .ok .zdEnd
    ∧ decode 0x27000000 = .ok .zdBuf := by
  decide

theorem test_words_serializer_and_parser :
    decode 0x30000000 = .ok .fsXblk ∧ decode 0x31000000 = .ok .fsYb0 ∧ decode 0x32000000 = .ok .fsYeob
    ∧ decode 0x33000000 = .ok .fsZhdr ∧ decode 0x34000000 = .ok .fsZdat ∧ decode 0x40000000 = .ok .fpXblk
    ∧ decode 0x41000000 = .ok .fpYb0 ∧ decode 0x42000000 = .ok .fpZhdr ∧ decode 0x43000000 = .ok .fpZdat := by
  decide

theorem test_words_retry :
    decode 0x50000000 = .ok .rtRst ∧ decode 0x51000000 = .ok .rtArm ∧ decode 0x52000000 = .ok .rtOk
    ∧ decode 0x53000000 = .ok .rtFail ∧ decode 0x54000000 = .ok .rtPoll := by
  decide

-- V1.13 to V1.15, and an opcode of the gap 0x23 (R114).
theorem test_illegal_words :
    decode 0x00000001 = .error .nonzeroZeroField ∧ decode 0x0D000000 = .error .unassignedOpcode
    ∧ decode 0x04010000 = .error .nonzeroZeroField ∧ decode 0x23000000 = .error .unassignedOpcode := by
  decide

-- R111: the encoder's words.
theorem test_encode_operands :
    encode (.ibPush 0x41) = 0x02000041 ∧ encode (.ibDrop 5000) = 0x04001388 ∧ encode .rtPoll = 0x54000000 := by
  decide

theorem test_table_word_and_fetch :
    decodeTableWord 32 0x02000041 = some (.ibPush 0x41) ∧ decodeTableWord 32 0xFF000000 = none
    ∧ (nextD (step (State.reset.withFetchWord 32 0x02000041))).ibuf = [0x41] := by
  decide

/-! ## The bus and the system commands -/

-- V1.16, V1.17, V1.18: reserved field values and the hardwired bit.
theorem test_reserved_values_keep :
    regRead 0x10 (regWrite 0x10 0x00000013 State.reset) = 0x00000010
    ∧ regRead 0x30 (regWrite 0x30 0x00031300 State.reset) = 0x00001300
    ∧ regRead 0x14 (regWrite 0x14 0x00000000 State.reset) = 0x01000000 := by
  decide

-- V1.19: write 1 to clear.
theorem test_errflags_w1c :
    (regWrite 0x08 0x00100080 { State.reset with errflags := 0x00180080 }).errflags = 0x00080000 := by
  decide

-- V2.6: register widths; the read-only view CRC32_OUT.
theorem test_register_widths :
    regRead 0x20 (regWrite 0x20 0xFFFF1234 State.reset) = 0x00001234
    ∧ regRead 0x1C (regWrite 0x1C 0x00000123 State.reset) = 0x00000023
    ∧ regWrite 0x28 0x12345678 State.reset = State.reset := by
  decide

-- R81: a read answers the register's word; R42: BUFLEN0 and BUFLEN1.
theorem test_bus_read_lengths :
    (nextD (step { withAction { time := 7, event := .read 0x64 4 } with ibuf := [1, 2], obuf := [3] })).readData
      = 0x00010002 := by
  decide

-- V1.13: ERRINFO holds the written word, RESULT is 0x14.
theorem test_illegal_command_reports :
    let t := nextD (step (withAction (command 0x00000001)))
    t.result = .illegalCommand ∧ t.errflags = 0x00100000 ∧ t.errinfo = 0x00000001 := by
  decide

-- V1.1.
theorem test_nop : (nextD (exec .nop { State.reset with result := .overrun })).result = .ok := by decide

-- V1.12.
theorem test_srst :
    let t := nextD (exec .srst { withTxp hello with errflags := 2, errinfo := 9, crc16 := 5 })
    t.txp = [] ∧ t.errflags = 0 ∧ t.errinfo = 0 ∧ t.crc16 = 0 := by
  decide

/-! ## Buffer commands -/

-- V1.2.
theorem test_ibPush : (nextD (exec (.ibPush 0x41) State.reset)).ibuf = [0x41] := by decide

-- V1.3.
theorem test_ibPush_full :
    let t := nextD (exec (.ibPush 0x01) (withIbuf (List.replicate 4096 0x00)))
    t.result = .bufferFull ∧ t.errflags = 0x00040000 ∧ t.errinfo = 0x02000001 ∧ t.ibuf.length = 4096 := by
  decide +kernel

-- R134.
theorem test_ibClr : (nextD (exec .ibClr (withIbuf hello))).ibuf = [] := by decide

-- V1.4: more than there are.
theorem test_ibDrop_all : (nextD (exec (.ibDrop 5000) (withIbuf hello))).ibuf = [] := by decide

-- R135.
theorem test_ibDrop_two : (nextD (exec (.ibDrop 2) (withIbuf hello))).ibuf = [0x6C, 0x6C, 0x6F] := by decide

-- V1.5.
theorem test_ibHunt :
    (nextD (exec .ibHunt (withIbuf [0x72, 0x7A, 0x0D, 0x2A, 0x2A, 0x18]))).ibuf = [0x2A, 0x2A, 0x18] := by
  decide

-- V1.6.
theorem test_ibHunt_none : (nextD (exec .ibHunt (withIbuf [0x0D, 0x0A, 0x11]))).ibuf = [] := by decide

-- V1.9.
theorem test_obPush :
    let t := nextD (exec (.obPush 0x40) State.reset)
    t.obuf = [0x40] ∧ t.zstate.zeLast = 0x40 := by
  decide

-- V1.9, second half.
theorem test_obPop :
    let t := nextD (exec .obPop { State.reset with obuf := [0x40], zstate := ⟨0x40, false⟩ })
    t.odata = 0x40 ∧ t.obuf = [] ∧ t.zstate.zeLast = 0x40 := by
  decide

-- V1.8.
theorem test_obPop_empty :
    let t := nextD (exec .obPop State.reset)
    t.result = .bufferEmpty ∧ t.errflags = 0x00080000 ∧ t.errinfo = 0x07000000 := by
  decide

-- R143: ZE_LAST keeps its value.
theorem test_obClr :
    let t := nextD (exec .obClr { State.reset with obuf := [0x40], zstate := ⟨0x40, false⟩ })
    t.obuf = [] ∧ t.zstate.zeLast = 0x40 := by
  decide

-- R137.
theorem test_tpPush : (nextD (exec (.tpPush 0x6F) (withTxp [0x48]))).txp = [0x48, 0x6F] := by decide

-- V1.10.
theorem test_tpPush_full :
    let t := nextD (exec (.tpPush 0x00) (withTxp (List.replicate 1024 0x00)))
    t.result = .bufferFull ∧ t.txp.length = 1024 := by
  decide +kernel

-- R138.
theorem test_tpClr : (nextD (exec .tpClr (withTxp hello))).txp = [] := by decide

-- R139.
theorem test_rpPop :
    let t := nextD (exec .rpPop { State.reset with rxp := [0x41, 0x42] })
    t.rdata = 0x41 ∧ t.rxp = [0x42] := by
  decide

-- V1.11.
theorem test_rpPop_empty :
    let t := nextD (exec .rpPop { State.reset with rdata := 0x07 })
    t.result = .bufferEmpty ∧ t.rdata = 0x07 := by
  decide

-- R140.
theorem test_rpClr : (nextD (exec .rpClr { State.reset with rxp := [0x41] })).rxp = [] := by decide

/-! ## Checksum engine -/

-- R160.
theorem test_ck8Init : (nextD (exec .ck8Init { State.reset with ck8 := 0x55 })).ck8 = 0x00 := by decide

-- V2.1: FF 01 wraps.
theorem test_ck8Upd : (nextD (exec (.ck8Upd 0x01) { State.reset with ck8 := 0xFF })).ck8 = 0x00 := by decide

-- V2.1: "123456789".
theorem test_ck8Buf :
    (nextD (exec .ck8Buf (withTxp [0x31, 0x32, 0x33, 0x34, 0x35, 0x36, 0x37, 0x38, 0x39]))).ck8 = 0xDD := by
  decide

-- R163.
theorem test_c16Init : (nextD (exec .c16Init { State.reset with crc16 := 0x1234 })).crc16 = 0x0000 := by decide

-- V2.2.
theorem test_c16Upd : (nextD (exec (.c16Upd 0x41) State.reset)).crc16 = 0x58E5 := by decide +kernel

-- V2.5: the saved value of "1234", then "56789".
theorem test_c16Buf :
    (nextD (exec .c16Buf { withTxp [0x35, 0x36, 0x37, 0x38, 0x39] with crc16 := 0xD789 })).crc16 = 0x31C3 := by
  decide +kernel

-- R166.
theorem test_c32Init :
    (nextD (exec .c32Init { State.reset with crc32Raw := 0 })).crc32Raw = 0xFFFFFFFF := by
  decide

-- V2.3: 41, register and view.
theorem test_c32Upd :
    let t := nextD (exec (.c32Upd 0x41) State.reset)
    t.crc32Raw = 0x2C266174 ∧ regRead 0x28 t = 0xD3D99E8B := by
  decide +kernel

-- S2: "123456789".
theorem test_c32Buf :
    regRead 0x28 (nextD (exec .c32Buf (withTxp [0x31, 0x32, 0x33, 0x34, 0x35, 0x36, 0x37, 0x38, 0x39])))
      = 0xCBF43926 := by
  decide +kernel

/-! ## Escape transform -/

-- R174.
theorem test_zeRst : (nextD (exec .zeRst { State.reset with zstate := ⟨0x40, true⟩ })).zstate = ⟨0x00, true⟩ := by
  decide

-- V3.4: a CR after an @ is escaped.
theorem test_zePut_cr :
    let t := nextD (exec (.zePut 0x0D) { State.reset with zstate := ⟨0x40, false⟩ })
    t.obuf = [0x18, 0x4D] ∧ t.zstate.zeLast = 0x4D := by
  decide

-- V3.8: two output bytes do not fit behind 4095.
theorem test_zePut_full :
    let t := nextD (exec (.zePut 0x11) { State.reset with obuf := List.replicate 4095 0x00 })
    t.result = .bufferFull ∧ t.obuf.length = 4095 := by
  decide +kernel

-- V3.1.
theorem test_zeBuf :
    (nextD (exec .zeBuf
      (withTxp [0x11, 0x13, 0x18, 0x91, 0x93, 0x10, 0x0D, 0x40, 0x0D, 0xC0, 0x8D, 0x41, 0x7F, 0xFF, 0x00]))).obuf
      = [0x18, 0x51, 0x18, 0x53, 0x18, 0x58, 0x18, 0xD1, 0x18, 0xD3, 0x10, 0x0D, 0x40, 0x18, 0x4D, 0xC0]
        ++ [0x18, 0xCD, 0x41, 0x7F, 0xFF, 0x00] := by
  decide +kernel

-- R178.
theorem test_zdRst : (nextD (exec .zdRst { State.reset with zstate := ⟨0x40, true⟩ })).zstate = ⟨0x40, false⟩ := by
  decide

-- V3.5: 18 DF gives 9F.
theorem test_zdPut :
    let t := nextD (exec (.zdPut 0xDF) { State.reset with zstate := ⟨0x00, true⟩ })
    t.rxp = [0x9F] ∧ t.zstate.zdPend = false := by
  decide

-- V3.5: a marker is not an escape for the plain decoder.
theorem test_zdPut_bad :
    let t := nextD (exec (.zdPut 0x68) { State.reset with zstate := ⟨0x00, true⟩ })
    t.result = .invalidEscape ∧ t.rxp = [] ∧ t.zstate.zdPend = true := by
  decide

-- V3.5: introducer followed by the end of the stream.
theorem test_zdEnd : (nextD (exec .zdEnd { State.reset with zstate := ⟨0x00, true⟩ })).result = .invalidEscape := by
  decide

-- V3.6.
theorem test_zdBuf :
    let t := nextD (exec .zdBuf (withIbuf [0x41, 0x18, 0x51, 0x18, 0x58]))
    t.rxp = [0x41, 0x11, 0x18] ∧ t.ibuf = [] := by
  decide

-- V3.6: the same without the last byte.
theorem test_zdBuf_bad :
    let t := nextD (exec .zdBuf (withIbuf [0x41, 0x18, 0x51, 0x18]))
    t.result = .invalidEscape ∧ t.rxp = [] ∧ t.ibuf = [0x41, 0x18, 0x51, 0x18] := by
  decide

/-! ## Serializer -/

-- V4.2: variant Checksum.
theorem test_fsXblk :
    (nextD (exec .fsXblk { helloSender with cfg := State.reset.cfg })).obuf
      = [0x01, 0x01, 0xFE] ++ helloPayload ++ [0x72] := by
  decide +kernel

-- V4.8: 129 bytes with variant Crc.
theorem test_fsXblk_overrun :
    let t := nextD (exec .fsXblk { helloSender with txp := List.replicate 129 0x41 })
    t.result = .overrun ∧ t.obuf = [] := by
  decide +kernel

-- V5.1, the payload; its CRC is tested below.
theorem test_yb0Text :
    yb0Text [0x61, 0x2E, 0x74, 0x78, 0x74] 10 0 0x1A4
      = [0x61, 0x2E, 0x74, 0x78, 0x74, 0x00, 0x31, 0x30, 0x20, 0x30, 0x20, 0x36, 0x34, 0x34, 0x00] := by
  decide +kernel

-- V5.5.
theorem test_fsYb0_zero_in_name :
    (nextD (exec .fsYb0 (withTxp [0x61, 0x00]))).result = .illegalCommand := by
  decide

-- V5.3.
theorem test_fsYeob :
    (nextD (exec .fsYeob State.reset)).obuf
      = [0x01, 0x00, 0xFF] ++ List.replicate 128 0x00 ++ [0x00, 0x00] := by
  decide +kernel

-- V6.5: hex.
theorem test_fsZhdr_hex :
    (nextD (exec .fsZhdr
      { State.reset with txDesc := { State.reset.txDesc with ztype := 9 }, txZhdr := 0x00001234 })).obuf
      = [0x2A, 0x2A, 0x18, 0x42, 0x30, 0x39, 0x33, 0x34, 0x31, 0x32, 0x30, 0x30, 0x30, 0x30, 0x36, 0x33]
        ++ [0x36, 0x37, 0x0D, 0x0A, 0x11] := by
  decide +kernel

-- V6.14: binary with CRC-32, a CRC byte escaped.
theorem test_fsZhdr_bin32 :
    (nextD (exec .fsZhdr
      { State.reset with
        txDesc := { State.reset.txDesc with ztype := 11, zenc := .bin32 }, txZhdr := 0x000003E8 })).obuf
      = [0x2A, 0x18, 0x43, 0x0B, 0xE8, 0x03, 0x00, 0x00, 0x82, 0x18, 0x51, 0x7F, 0xA0] := by
  decide +kernel

-- V7.6: CFG.ZCRCW 0, marker 0x6A, a CR after an @.
theorem test_fsZdat :
    (nextD (exec .fsZdat
      { withTxp [0x40, 0x0D] with txDesc := { State.reset.txDesc with zend := 2 } })).obuf
      = [0x40, 0x18, 0x4D, 0x18, 0x6A, 0xA6, 0x1D] := by
  decide +kernel

-- V7.2: ZCRCW 1.
theorem test_fsZdat_wide :
    (nextD (exec .fsZdat { withTxp hello with cfg := { State.reset.cfg with zcrcw := true } })).obuf
      = hello ++ [0x18, 0x68, 0x62, 0x35, 0x2A, 0x92] := by
  decide +kernel

/-! ## Parser -/

-- V4.2 parsed, a byte behind it left.
theorem test_fpXblk :
    let t := nextD (exec .fpXblk (withIbuf ([0x01, 0x01, 0xFE] ++ helloPayload ++ [0x72, 0x04])))
    t.result = .ok ∧ t.rxDesc.blk = 0x01 ∧ t.rxp = helloPayload ∧ t.rxCrcCalc = 0x72 ∧ t.ibuf = [0x04] := by
  decide +kernel

-- V4.10: V4.2 with the last byte changed to 73.
theorem test_fpXblk_mismatch :
    let t := nextD (exec .fpXblk (withIbuf ([0x01, 0x01, 0xFE] ++ helloPayload ++ [0x73])))
    t.result = .checksumMismatch ∧ t.rxCrcCalc = 0x72 ∧ t.rxCrcRcvd = 0x73 ∧ t.rxp = [] := by
  decide +kernel

-- V5.14: overflow of the second number.
theorem test_yb0Fields :
    let f := yb0Fields ([0x66, 0x00, 0x34, 0x32, 0x39, 0x34, 0x39, 0x36, 0x37, 0x32, 0x39, 0x35, 0x20]
      ++ [0x34, 0x30, 0x30, 0x30, 0x30, 0x30, 0x30, 0x30, 0x30, 0x30, 0x30, 0x20, 0x33, 0x37, 0x37, 0x37]
      ++ [0x37, 0x37, 0x37, 0x37, 0x37, 0x37, 0x37] ++ List.replicate 89 0x00)
    f.nlen = 1 ∧ yb0Value f 0 = 0xFFFFFFFF ∧ yb0Value f 1 = 0 ∧ yb0Value f 2 = 0xFFFFFFFF
      ∧ yb0Overflow f = true := by
  decide +kernel

-- V5.11: one number only; the kernel folds the CRC in two halves.
theorem crc16_foo : crc16 fooPayload 0 = 0xB9C4 := by
  have h1 : crc16 (fooPayload.take 64) 0 = 0x3E75 := by decide +kernel
  have h2 : crc16 (fooPayload.drop 64) 0x3E75 = 0xB9C4 := by decide +kernel
  rw [← List.take_append_drop 64 fooPayload, crc16, List.foldl_append]
  exact (congrArg (fun c => crc16 (fooPayload.drop 64) c) h1).trans h2

theorem foo_scanned : scanBlock .crc fooBlock
    = .ok { number := 0x00, payload := fooPayload, computed := 0xB9C4, received := 0xB9C4, rest := [] } := by
  have hp : (fooBlock.drop 3).take (blockSize .crc) = fooPayload := by decide +kernel
  have hr : trailerCheck .crc fooBlock (3 + blockSize .crc) = 0xB9C4 := by decide +kernel
  have ht : fooBlock.drop (blockLength .crc) = [] := by decide +kernel
  have hn : byteAt fooBlock 1 = 0x00 := by decide +kernel
  have hc : blockCheck .crc fooPayload = 0xB9C4 := by
    show (crc16 fooPayload 0).setWidth 32 = _
    rw [crc16_foo]
    rfl
  unfold scanBlock
  rw [if_neg (by decide +kernel), if_neg (by decide +kernel), if_neg (by decide +kernel),
    if_neg (by decide +kernel), hp, hr, ht, hn]
  dsimp only
  rw [hc]

theorem test_fpYb0 :
    let t := nextD (exec .fpYb0 (withIbuf fooBlock))
    t.result = .ok ∧ rxDescWord t.rxDesc = 0x02000000 ∧ t.rxYnlen = 3 ∧ t.rxYsize = 123 := by
  simp only [exec, execFpYb0, withIbuf, foo_scanned]
  decide +kernel

-- V6.7 parsed, two pads, and a byte behind it left.
theorem test_fpZhdr :
    let t := nextD (exec .fpZhdr
      (withIbuf [0x2A, 0x2A, 0x18, 0x41, 0x0A, 0x00, 0x00, 0x00, 0x00, 0x46, 0xAE, 0x77]))
    t.result = .ok ∧ t.rxDesc.ztype = 10 ∧ t.rxDesc.zenc = .bin16 ∧ t.ibuf = [0x77] := by
  decide +kernel

-- V6: type 20 with a correct CRC.
theorem test_fpZhdr_type :
    let t := nextD (exec .fpZhdr (withIbuf [0x2A, 0x18, 0x41, 0x14, 0x00, 0x00, 0x00, 0x00, 0x8D, 0x5C]))
    t.result = .invalidFrameType ∧ t.rxCrcCalc = 0x8D5C ∧ t.rxCrcRcvd = 0x8D5C := by
  decide +kernel

-- V7.5 parsed.
theorem test_fpZdat :
    let t := nextD (exec .fpZdat (withIbuf [0x18, 0x51, 0x18, 0x58, 0x41, 0x18, 0x69, 0x44, 0xA3]))
    t.result = .ok ∧ t.rxp = [0x11, 0x18, 0x41] ∧ t.rxDesc.zend = 1 ∧ t.ibuf = [] := by
  decide +kernel

-- R233: an introducer at the end of the bytes present.
theorem test_fpZdat_incomplete : (nextD (exec .fpZdat (withIbuf [0x41, 0x18]))).result = .incomplete := by
  decide

/-! ## Retry timeout counter -/

-- R251.
theorem test_rtRst :
    let t := nextD (exec .rtRst { State.reset with rtStat := ⟨3, false, true⟩, rtDl := 9 })
    t.rtStat = ⟨0, false, false⟩ ∧ t.rtDl = 0 := by
  decide

-- R252: the deadline is modulo 2^64.
theorem test_rtArm :
    let t := nextD (exec .rtArm { State.reset with now := 0xFFFFFFFFFFFFFFFF, rtTmo := 2 })
    t.rtDl = 1 ∧ t.rtStat.armed = true := by
  decide

-- R253.
theorem test_rtOk :
    (nextD (exec .rtOk { State.reset with rtStat := ⟨3, true, false⟩ })).rtStat = ⟨0, false, false⟩ := by
  decide

-- R254, R257: the failure that reaches MAX.
theorem test_rtFail_last :
    let t := nextD (exec .rtFail { State.reset with rtStat := ⟨9, true, false⟩ })
    t.result = .maxRetriesExceeded ∧ t.rtStat = ⟨10, false, true⟩ := by
  decide

-- R255: at the deadline, budget left.
theorem test_rtPoll :
    let t := nextD (exec .rtPoll { State.reset with rtStat := ⟨0, true, false⟩, rtDl := 5, now := 5 })
    t.result = .timeout ∧ t.rtStat = ⟨1, false, false⟩ := by
  decide

-- R255: one before the deadline.
theorem test_rtPoll_early :
    let t := nextD (exec .rtPoll { State.reset with rtStat := ⟨0, true, false⟩, rtDl := 5, now := 4 })
    t.result = .ok ∧ t.rtStat = ⟨0, true, false⟩ := by
  decide

/-! ## Witnesses: for each obligation with hypotheses, a state and operands that meet all of them -/

/-- A state with an exhausted counter. -/
def exhausted : State := { State.reset with rtStat := ⟨10, false, true⟩ }

/-- A state with an armed deadline 5 and time `n`. -/
def armedAt (n : Time) : State := { State.reset with rtStat := ⟨0, true, false⟩, rtDl := 5, now := n }

/-- The reset state with `n` bytes in `OBUF`. -/
def withObuf (n : Nat) : State := { State.reset with obuf := List.replicate n 0x55 }

/-- A pending write to CMD. -/
def issuing (w : Word) : State := withAction (command w)

-- DecodeEncodeRoundTrip: the largest operand.
theorem witness_wellFormed : (Instr.ibDrop 65535).wellFormed = true := by decide

-- DecodedWordIsItsEncoding.
theorem witness_decodes : ∃ i, decode 0x0400FFFF = .ok i := ⟨.ibDrop 65535, by decide⟩

-- DecoderFollowsOpcodeMap: a row and a word that matches, one that does not, and a word of no row.
theorem witness_row_matches : ∃ r ∈ opcodeMap, (0x0400FFFF#32 >>> 24).setWidth 8 = r.op ∧ Matches 0x0400FFFF r :=
  ⟨⟨0x04, .half .ibDrop⟩, by simp [opcodeMap, opcodeMapSystem], by decide, by decide⟩

theorem witness_row_fails : ∃ r ∈ opcodeMap, (0x04010000#32 >>> 24).setWidth 8 = r.op ∧ ¬ Matches 0x04010000 r :=
  ⟨⟨0x04, .half .ibDrop⟩, by simp [opcodeMap, opcodeMapSystem], by decide, by decide⟩

theorem witness_no_row : ∀ r ∈ opcodeMap, (0x55000000#32 >>> 24).setWidth 8 ≠ r.op := by decide

-- StepRunsDecodedCommand.
theorem witness_step_decodes :
    (issuing 0x02000041).pending = { time := 7, event := .write 0x00 4 0x02000041 } :: []
      ∧ decode 0x02000041 = .ok (.ibPush 0x41) := by
  decide

-- UndecodableWordEndsIllegalCommand: an unassigned opcode, and a 1 in a zero field.
theorem witness_undecodable :
    (issuing 0x0D000000).pending = { time := 7, event := .write 0x00 4 0x0D000000 } :: []
      ∧ (∀ r ∈ opcodeMap, ¬ Matches 0x0D000000 r) ∧ (∀ r ∈ opcodeMap, ¬ Matches 0x00000001 r) := by
  decide

-- RegisterReadHasNoSideEffect: CMD, the last register, the first reserved and the last offset.
theorem witness_read (off : Nat) :
    (withAction { time := 7, event := .read off 4 }).pending = { time := 7, event := .read off 4 } :: [] := rfl

theorem witness_read_offsets : ∀ off ∈ [0x00, 0x84, 0x88, 0xFC], off % 4 = 0 ∧ off ≤ 0xFC := by decide

theorem witness_read_zero : (0x00 = 0x00 ∨ 0x88 ≤ 0x00) ∧ (0x88 = 0x00 ∨ 0x88 ≤ 0x88) := by decide

/-- A state of the invariant with `IBUF` full and one read of `BUFLEN0` pending. -/
def readingBuflen : State :=
  { withAction { time := 7, event := .read 0x64 4 } with
    ibuf := List.replicate 4096 0, obuf := List.replicate 3 0 }

theorem witness_read_invariant : readingBuflen.Inv
    ∧ readingBuflen.pending = { time := 7, event := .read 0x64 4 } :: [] := by
  decide +kernel

-- R43: BUFLEN0 holds len(IBUF) in bits 15..0 and len(OBUF) in bits 31..16.
theorem test_buflen0_lengths : regRead 0x64 readingBuflen = 0x00031000 := by decide +kernel

-- R47: RT_DL_LO and RT_DL_HI are the low and the high half of RT_DL.
theorem test_rt_dl_halves : regRead 0x80 { State.reset with rtDl := 0x1122334455667788 } = 0x55667788
    ∧ regRead 0x84 { State.reset with rtDl := 0x1122334455667788 } = 0x11223344 := by
  decide

-- RegisterWriteRule: CMD, the first and the last offset behind it.
theorem witness_write (off : Nat) (v : Word) :
    (withAction { time := 7, event := .write off 4 v }).pending
      = { time := 7, event := .write off 4 v } :: [] := rfl

theorem witness_write_offsets : ∀ off ∈ [0x00, 0x04, 0xFC], off % 4 = 0 ∧ off ≤ 0xFC := by decide

theorem witness_write_command : 0x00 = 0x00 ∧ decode 0x00000000 = .ok .nop := by decide

-- ReservedBitsAndReadOnlyRegisters: a read-only and a reserved offset, a state of the invariant, the reserved
-- values.
theorem witness_not_writable : hostWritable 0x04 = false ∧ hostWritable 0x88 = false ∧ hostWritable 0x00 = false := by
  decide

theorem witness_invariant : { withTxp hello with errflags := 0x001F03FE, rtStat := ⟨65534, true, false⟩ }.Inv := by
  decide

theorem witness_reserved_values :
    (0x00000003#32).extractLsb' 0 2 = 3 ∧ (0x00030000#32).extractLsb' 16 2 = 3 := by
  decide

-- UnacceptedAccessIsRefused: a narrow, a misaligned and an outside access, and an accepted one.
theorem witness_unaccepted :
    ¬ (2 = 4 ∧ 0x04 % 4 = 0 ∧ 0x04 ≤ 0xFC) ∧ ¬ (4 = 4 ∧ 0x06 % 4 = 0 ∧ 0x06 ≤ 0xFC)
      ∧ ¬ (4 = 4 ∧ 0x100 % 4 = 0 ∧ 0x100 ≤ 0xFC) ∧ (4 = 4 ∧ 0xFC % 4 = 0 ∧ 0xFC ≤ 0xFC) := by
  decide

-- WindowAddresses.
theorem witness_window : 255 < 256 ∧ (Config.base + 256 < Config.base ∨ Config.base + 256 ≤ Config.base + 256) :=
  ⟨by decide, .inr (Nat.le_refl _)⟩

-- ResetRegisterValues: the first reserved offset.
theorem witness_reserved_offset : registerAt 0x88 = none := by decide

-- SrstIsResetAndNopOnlyReports.
theorem witness_reset_pending :
    (withAction { time := 7, event := .reset }).pending = { time := 7, event := .reset } :: [] := rfl

theorem witness_idle : State.reset.pending = [] := rfl

-- EveryCommandEndsWithStatusUpdate, OutcomeCodesOfEachCommand, FaultsArePrecise, the two frames: a command that
-- ends Ok, one that faults, one whose fault is decided by a check value, one of class result.
theorem witness_ends_ok : ∃ t, exec (.obPush 0x41) State.reset = .next t ∧ t.result = .ok :=
  ⟨_, next_of_isSome (by decide), by decide⟩

theorem witness_faults : ∃ t, exec .obPop State.reset = .next t ∧ codeIsFault t.result = true :=
  ⟨_, next_of_isSome (by decide), by decide⟩

theorem witness_parser_faults : ∃ t, exec .fpZdat (withIbuf [0x18]) = .next t ∧ isParser .fpZdat = true
    ∧ codeIsFault t.result = true ∧ t.result ∈ [ResultCode.incomplete, .complementMismatch] :=
  ⟨_, next_of_isSome (by decide), by decide, by decide, by decide⟩

theorem witness_result_class : ∃ t, exec .rtPoll (armedAt 5) = .next t ∧ t.result = .timeout :=
  ⟨_, next_of_isSome (by decide), by decide⟩

theorem witness_result_class_exhausted : ∃ t, exec .rtPoll exhausted = .next t ∧ t.result = .maxRetriesExceeded :=
  ⟨_, next_of_isSome (by decide), by decide⟩

theorem witness_srst : ∃ t, exec .srst State.reset = .next t := ⟨_, next_of_isSome (by decide)⟩

-- StepKeepsInvariant.
theorem witness_step_invariant : ∃ t, (issuing 0x02000041).Inv ∧ step (issuing 0x02000041) = .next t :=
  ⟨_, by decide, next_of_isSome (by decide)⟩

-- AcceptedHostNeverStopsTheMachine.
theorem witness_host_ok : HostOk { issuing 0xFF000000 with
    pending := [command 0xFF000000, { time := 8, event := .read 0xFC 4 }, { time := 9, event := .reset }] } := by
  decide

-- RetryStateAndTimeAreIndependent and ParserReadsOnlyItsInputs.
theorem witness_not_retry : isRetry .fpZdat = false ∧ Instr.fpZdat ≠ .srst ∧ Instr.fpZdat ≠ .rtArm
    ∧ Instr.fpZdat ≠ .rtPoll ∧ isParser .fpZdat = true := by
  decide

theorem witness_parser_inputs : (withTxp hello).ibuf = [] ∧ (withTxp hello).cfg = State.reset.cfg
    ∧ State.reset.ibuf = [] ∧ withTxp hello ≠ State.reset := by
  decide

-- InputBufferPushClearDrop, HuntDropsUpToFirstPad.
theorem witness_ibuf_sizes : (withIbuf (List.replicate 4095 0)).ibuf.length ≠ 4096
    ∧ (withIbuf (List.replicate 4096 0)).ibuf.length = 4096 ∧ 65535 < 65536 := by
  decide +kernel

theorem witness_hunt : (withIbuf [0x0D, 0x2A, 0x2A]).ibuf[1]? = some 0x2A
    ∧ (∀ j < 1, (withIbuf [0x0D, 0x2A, 0x2A]).ibuf[j]? ≠ some 0x2A)
    ∧ 0x2A ∉ (withIbuf [0x0D, 0x0A]).ibuf := by
  decide

-- PayloadBufferCommands, OutputBufferCommands.
theorem witness_payload_sizes : (withTxp (List.replicate 1023 0)).txp.length ≠ 1024
    ∧ (withTxp (List.replicate 1024 0)).txp.length = 1024 ∧ State.reset.rxp = []
    ∧ { State.reset with rxp := [0x41] }.rxp = 0x41 :: [] := by
  decide +kernel

theorem witness_obuf_sizes : (withObuf 4095).obuf.length + 1 ≤ 4096 ∧ 4096 < (withObuf 4096).obuf.length + 1
    ∧ State.reset.obuf = [] ∧ (withObuf 1).obuf = 0x55 :: [] := by
  decide +kernel

-- EncoderPutsOneByte: the introducer, a byte of the high map, the CR rule, and a byte that is not escaped; with
-- room and without.
theorem witness_escaped_map : (0x18 : Byte).toNat < 32
    ∧ State.reset.escmapHi.getLsbD ((0x91 : Byte).toNat - 128) = true
    ∧ State.reset.escmapHi.getLsbD ((0x9F : Byte).toNat - 128) = false := by
  decide

theorem witness_cr_rule : { State.reset with zstate := ⟨0xC0, false⟩ }.cfg.crctx = true
    ∧ { State.reset with zstate := ⟨0xC0, false⟩ }.zstate.zeLast = 0xC0 := by
  decide

theorem witness_escape_room : (withObuf 4094).obuf.length + 2 ≤ 4096 ∧ 4096 < (withObuf 4095).obuf.length + 2 := by
  decide +kernel

-- EncodePayloadEqualsBytePuts: Ok, enough room, not Ok.
theorem witness_zeBuf_room : (withTxp hello).obuf.length + 2 * (withTxp hello).txp.length ≤ 4096
    ∧ (nextD (exec .zeBuf (withTxp hello))).result = .ok := by
  decide

theorem witness_zeBuf_full : (nextD (exec .zeBuf { withObuf 4096 with txp := hello })).result ≠ .ok := by
  decide +kernel

-- The encoded form of "Hello" is its five bytes: it fits behind 4091 bytes, and not behind 4092.
theorem witness_zeBuf_boundary :
    (zenc (escmap State.reset) State.reset.cfg.crctx State.reset.zstate.zeLast hello).1.length = 5
      ∧ (nextD (exec .zeBuf { withObuf 4091 with txp := hello })).result = .ok
      ∧ (nextD (exec .zeBuf { withObuf 4092 with txp := hello })).result = .bufferFull := by
  decide +kernel

-- StreamingDecoderCommands.
theorem witness_zdPut : State.reset.zstate.zdPend = false ∧ (0x41 : Byte) ≠ 0x18
    ∧ { State.reset with rxp := List.replicate 1024 0 }.rxp.length = 1024
    ∧ (0x68 : Byte) &&& 0x60 ≠ 0x40 ∧ (0x5F : Byte) &&& 0x60 = 0x40
    ∧ { State.reset with zstate := ⟨0, true⟩ }.zstate.zdPend = true := by
  decide +kernel

-- WholeBufferDecode: an escaped form that fits, one that is too long, and a stream that is no escaped form.
theorem escapedAs_plain (n : Nat) : EscapedAs (List.replicate n 0x41) (List.replicate n 0x41) := by
  induction n with
  | zero => exact .nil
  | succ n ih => exact .plain 0x41 _ _ (by decide) ih

theorem witness_escapedAs : EscapedAs (withIbuf [0x41, 0x18, 0x51]).ibuf [0x41, 0x11] ∧ [(0x41 : Byte), 0x11].length ≤ 1024 :=
  ⟨.plain 0x41 _ _ (by decide) (.escape 0x51 _ _ (by decide) .nil), by decide⟩

theorem witness_escapedAs_long : EscapedAs (withIbuf (List.replicate 1025 0x41)).ibuf (List.replicate 1025 0x41)
    ∧ 1024 < (List.replicate 1025 (0x41 : Byte)).length :=
  ⟨escapedAs_plain 1025, by rw [List.length_replicate]; decide⟩

theorem not_escapedAs_introducer (d : List Byte) : ¬ EscapedAs [0x18] d := by
  intro h
  cases h with
  | plain b w d hb h => exact hb rfl

theorem witness_not_escapedAs : ¬ ∃ d, EscapedAs (withIbuf [0x18]).ibuf d :=
  fun ⟨d, h⟩ => not_escapedAs_introducer d h

-- EscapeRoundTrip.
theorem witness_escape_round_trip : ∃ t, (0x000A0000010A0000 : BitVec 64).getLsbD 24 = true
    ∧ (withTxp hello).obuf = [] ∧ exec .zeBuf (withTxp hello) = .next t ∧ t.result = .ok
    ∧ (withTxp hello).txp.length ≤ 1024 ∧ (withIbuf hello).ibuf = t.obuf :=
  ⟨_, by decide, rfl, next_of_isSome (by decide), by decide, by decide, by decide⟩

-- XmodemBlockSerialized: 128 and 129 bytes, with room and without.
theorem witness_xmodem_sizes : (variantShape .crc).2.1 < (withTxp (List.replicate 129 0x41)).txp.length
    ∧ (withTxp (List.replicate 128 0x41)).txp.length ≤ (variantShape .crc).2.1
    ∧ (withObuf 3963).obuf.length + 133 ≤ 4096 ∧ 4096 < (withObuf 3964).obuf.length + 133 := by
  decide +kernel

-- YmodemBlock0Serialized: an empty name, a zero in the name, a text of 128 and of 129 bytes.
theorem witness_yb0 : (withTxp []).txp = [] ∧ 0x00 ∈ (withTxp [0x61, 0x00]).txp ∧ 0x00 ∉ (withTxp hello).txp
    ∧ (withTxp hello).txp ≠ []
    ∧ (yb0Text (List.replicate 92 0x61) 0xFFFFFFFF 0xFFFFFFFF 0xFFFFFFFF).length = 128
    ∧ (yb0Text (List.replicate 93 0x61) 0xFFFFFFFF 0xFFFFFFFF 0xFFFFFFFF).length = 129 := by
  decide +kernel

-- ZmodemHeaderSerialized: types 19 and 20.
theorem witness_frame_types : 19 < (20 : BitVec 5).toNat ∧ (19 : BitVec 5).toNat ≤ 19
    ∧ (withObuf 4075).obuf.length + 21 ≤ 4096 ∧ 4096 < (withObuf 4076).obuf.length + 21 := by
  decide +kernel

-- ZmodemDataSerialized: both widths.
theorem witness_zcrcw : State.reset.cfg.zcrcw = false
    ∧ { State.reset with cfg := { State.reset.cfg with zcrcw := true } }.cfg.zcrcw = true := by
  decide

-- UnitLengthBounds: each serializer command from one state with OBUF empty and TXP short; a header, then a
-- subpacket.
theorem witness_unit_bounds : ∀ i ∈ [Instr.fsXblk, .fsYeob, .fsZhdr, .fsZdat],
    ∃ t, (withTxp hello).obuf = [] ∧ (withTxp hello).txp.length ≤ 1024 ∧ exec i (withTxp hello) = .next t := by
  intro i hi
  refine ⟨_, rfl, by decide, next_of_isSome ?_⟩
  revert i
  decide +kernel

theorem witness_header_then_data : ∃ t u, exec .fsZhdr (withTxp hello) = .next t ∧ exec .fsZdat t = .next u :=
  ⟨_, _, next_of_isSome (by decide +kernel), next_of_isSome (by decide +kernel)⟩

-- NumberTextIsShortAndReadsBack.
theorem witness_numbers : (0xFFFFFFFF : Word) ≠ 0 ∧ (0 : Word) = 0 ∧ (List.replicate 92 (0x61 : Byte)).length ≤ 92 := by
  decide

-- RepeatedSerializationRepeatsUnit: a header twice, and a subpacket twice with ZE_LAST the same.
theorem witness_repeat_header : ∃ t u, exec .fsZhdr State.reset = .next t ∧ t.result = .ok
    ∧ exec .fsZhdr t = .next u ∧ u.result = .ok ∧ Instr.fsZhdr ≠ .fsZdat :=
  ⟨_, _, next_of_isSome (by decide +kernel), by decide +kernel, next_of_isSome (by decide +kernel),
    by decide +kernel, by decide⟩

theorem witness_repeat_data : ∃ t u, exec .fsZdat { withTxp hello with zstate := ⟨0x89, false⟩ } = .next t
    ∧ t.result = .ok ∧ exec .fsZdat t = .next u ∧ u.result = .ok ∧ t.zstate.zeLast = 0x89 :=
  ⟨_, _, next_of_isSome (by decide +kernel), by decide +kernel, next_of_isSome (by decide +kernel),
    by decide +kernel, by decide +kernel⟩

-- XmodemBlockParsed: empty, a wrong first byte, one byte short, and a whole block for each comparison.
theorem witness_xmodem_unread : (withIbuf []).ibuf = [] ∧ (withIbuf [0x02]).ibuf = 0x02 :: []
    ∧ (0x02 : Byte) ≠ (variantShape .checksum).1
    ∧ (withIbuf (0x01 :: List.replicate 130 0)).ibuf = (variantShape .checksum).1 :: List.replicate 130 0
    ∧ (withIbuf (0x01 :: List.replicate 130 0)).ibuf.length < 3 + (variantShape .checksum).2.1 + 1 := by
  decide +kernel

theorem witness_xmodem_block : helloPayload.length = (variantShape .checksum).2.1 ∧ [(0x72 : Byte)].length = 1
    ∧ (0xFE : Byte) = 255 - 0x01 ∧ (0xFF : Byte) ≠ 255 - 0x01
    ∧ variantCheck .checksum helloPayload = bigEndian [0x72]
    ∧ variantCheck .checksum helloPayload ≠ bigEndian [0x73] := by
  decide +kernel

-- YmodemBlock0Parsed: one byte short, a whole block with each comparison and number.
theorem witness_yb0_short : (withIbuf (0x01 :: List.replicate 131 0)).ibuf = 0x01 :: List.replicate 131 0
    ∧ (withIbuf (0x01 :: List.replicate 131 0)).ibuf.length < 133 ∧ (0x02 : Byte) ≠ 0x01 := by
  decide +kernel

theorem witness_yb0_block : (withIbuf fooBlock).ibuf = [0x01, 0x00, 0xFF] ++ fooPayload ++ [0xB9, 0xC4] ++ []
    ∧ fooPayload.length = 128 ∧ (0xFF : Byte) = 255 - 0x00 ∧ (0xFE : Byte) ≠ 255 - 0x00
    ∧ (crc16 fooPayload 0).toNat = bigEndian [0xB9, 0xC4] ∧ (crc16 fooPayload 0).toNat ≠ bigEndian [0xB9, 0xC5]
    ∧ (0x01 : Byte) ≠ 0 := by
  rw [crc16_foo]
  decide +kernel

-- YmodemMetadataRead: `f 00 "12 7 7"`, `foo 00 "123"`, `foo 00`, all zero, no zero.
theorem witness_metadata_whole : ∃ p : List Byte, p.length = 128 ∧ p ≠ List.replicate 128 0x00
    ∧ p = [0x66] ++ [0x00] ++ ([0x31, 0x32] ++ ([0x20] ++ [0x37] ++ ([0x20] ++ [0x37] ++ List.replicate 120 0x00)))
    ∧ 0x00 ∉ [(0x66 : Byte)] ∧ WholeRun 8 [0x37] (List.replicate 120 0x00)
    ∧ WholeRun 8 [0x37] ([0x20] ++ [0x37] ++ List.replicate 120 0x00)
    ∧ WholeRun 10 [0x31, 0x32] ([0x20] ++ [0x37] ++ ([0x20] ++ [0x37] ++ List.replicate 120 0x00)) :=
  ⟨_, by decide +kernel, by decide +kernel, rfl, by decide, by decide +kernel, by decide +kernel,
    by decide +kernel⟩

theorem witness_metadata_stops : ¬ OctalFollows [0x20, 0x38] ∧ ¬ OctalFollows [0x20, 0x20, 0x37]
    ∧ ¬ OctalFollows (List.replicate 120 0x00) ∧ ¬ OctalFollows ([] : List Byte)
    ∧ (∀ b ∈ ([0x00] : List Byte).head?, ¬ Digit 10 b) ∧ 0x00 ∉ List.replicate 128 (0x78 : Byte)
    ∧ (List.replicate 128 (0x78 : Byte)).length = 128 := by
  decide +kernel

-- ZmodemHeaderParsed: each encoding, with a CRC that is right and one that is wrong (V6.1, V6.7, V6.8), and a
-- sound header of type 20 (V6).
theorem witness_header_hex : (withIbuf ([0x2A, 0x2A, 0x18, 0x42] ++ List.replicate 14 0x30)).ibuf
      = List.replicate (1 + 1) 0x2A ++ [0x18, 0x42] ++ hexWire (List.replicate 7 0x00) ++ []
    ∧ (List.replicate 7 (0x00 : Byte)).length = 7
    ∧ (crc16 ((List.replicate 7 (0x00 : Byte)).take 5) 0).toNat = bigEndian ((List.replicate 7 (0x00 : Byte)).drop 5) := by
  decide +kernel

/-- The logical bytes of V6.7, of V6.7 with a wrong CRC, of V6.8 and of the type 20 header. -/
def l16 : List Byte := [0x0A, 0, 0, 0, 0, 0x46, 0xAE]
@[inherit_doc l16] def l16Bad : List Byte := [0x0A, 0, 0, 0, 0, 0x46, 0xAF]
@[inherit_doc l16] def l32 : List Byte := [0x0A, 0, 0, 0, 0, 0xBC, 0xEF, 0x92, 0x8C]
@[inherit_doc l16] def l20 : List Byte := [0x14, 0, 0, 0, 0, 0x8D, 0x5C]

theorem escapedAs_self (w : List Byte) (h : 0x18 ∉ w) : EscapedAs w w := by
  induction w with
  | nil => exact .nil
  | cons b w ih =>
    exact .plain b w w (fun e => h (e ▸ List.mem_cons_self)) (ih (fun m => h (List.mem_cons_of_mem b m)))

theorem witness_header_binary : EscapedAs l16 l16 ∧ EscapedAs l16Bad l16Bad ∧ EscapedAs l32 l32 ∧ EscapedAs l20 l20 :=
  ⟨escapedAs_self _ (by decide), escapedAs_self _ (by decide), escapedAs_self _ (by decide),
    escapedAs_self _ (by decide)⟩

theorem witness_header_checks : l16.length = 7 ∧ l32.length = 9
    ∧ (crc16 (l16.take 5) 0).toNat = bigEndian (l16.drop 5) ∧ (crc32 (l32.take 5)).toNat = littleEndian (l32.drop 5)
    ∧ (crc16 (l16Bad.take 5) 0).toNat ≠ bigEndian (l16Bad.drop 5)
    ∧ (crc16 (l20.take 5) 0).toNat = bigEndian (l20.drop 5) ∧ 19 < (l20.headD 0).toNat ∧ (l16.headD 0).toNat ≤ 19 := by
  decide +kernel

theorem witness_header_ibuf : (withIbuf ([0x2A, 0x18, 0x41] ++ l16)).ibuf
    = List.replicate (0 + 1) 0x2A ++ [0x18, 0x41] ++ l16 ++ [] := by
  decide

-- ZmodemHeaderScanFaults: one buffer for each clause.
theorem witness_header_faults : (withIbuf [0x72]).ibuf = 0x72 :: [] ∧ (0x72 : Byte) ≠ 0x2A
    ∧ (withIbuf [0x2A, 0x41]).ibuf = List.replicate (0 + 1) 0x2A ++ [0x41] ++ [] ∧ (0x41 : Byte) ≠ 0x18
    ∧ (withIbuf [0x2A, 0x18, 0x44]).ibuf = List.replicate (0 + 1) 0x2A ++ [0x18, 0x44] ++ []
    ∧ (0x44 : Byte) ∉ [(0x41 : Byte), 0x42, 0x43] := by
  decide

theorem witness_header_faults_hex : (List.replicate 6 (0x00 : Byte)).length < 7 ∧ (0x66 : Byte) ∈ hexDigits
    ∧ (0x67 : Byte) ∉ hexDigits ∧ (0x41 : Byte) ∉ hexDigits
    ∧ (withIbuf ([0x2A, 0x18, 0x42] ++ List.replicate 12 0x30 ++ [0x66])).ibuf
        = List.replicate (0 + 1) 0x2A ++ [0x18, 0x42] ++ hexWire (List.replicate 6 0x00) ++ [0x66]
    ∧ (withIbuf ([0x2A, 0x18, 0x42] ++ List.replicate 12 0x30 ++ [0x66, 0x67])).ibuf
        = List.replicate (0 + 1) 0x2A ++ [0x18, 0x42] ++ hexWire (List.replicate 6 0x00) ++ [0x66, 0x67] ++ [] := by
  decide +kernel

theorem witness_header_faults_binary : EscapedAs (l16.take 6) (l16.take 6) ∧ (l16.take 6).length < 7
    ∧ EscapedAs (l32.take 8) (l32.take 8) ∧ (l32.take 8).length < 9 ∧ (0x18 : Byte) &&& 0x60 ≠ 0x40
    ∧ (withIbuf ([0x2A, 0x18, 0x41] ++ l16.take 6 ++ [0x18])).ibuf
        = List.replicate (0 + 1) 0x2A ++ [0x18, 0x41] ++ l16.take 6 ++ [0x18] :=
  ⟨escapedAs_self _ (by decide), by decide, escapedAs_self _ (by decide), by decide, by decide, by decide⟩

-- ZmodemDataParsed: V7.1 and V7.2, and V7.1 with a wrong CRC.
theorem witness_data : EscapedAs hello hello ∧ hello.length ≤ 1024 ∧ 0x68 ≤ (0x68 : Byte).toNat
    ∧ (0x6B : Byte).toNat ≤ 0x6B ∧ EscapedAs [0x53, 0x89] [0x53, 0x89]
    ∧ EscapedAs [0x62, 0x35, 0x2A, 0x92] [0x62, 0x35, 0x2A, 0x92]
    ∧ (withIbuf (hello ++ [0x18, 0x68, 0x53, 0x89])).ibuf = hello ++ [0x18, 0x68] ++ [0x53, 0x89] ++ [] :=
  ⟨escapedAs_self _ (by decide), by decide, by decide, by decide, escapedAs_self _ (by decide),
    escapedAs_self _ (by decide), by decide⟩

theorem witness_data_checks : (crc16 (hello ++ [0x68]) 0).toNat = bigEndian [0x53, 0x89]
    ∧ (crc32 (hello ++ [0x68])).toNat = littleEndian [0x62, 0x35, 0x2A, 0x92]
    ∧ (crc16 (hello ++ [0x68]) 0).toNat ≠ bigEndian [0x53, 0x8A] := by
  decide +kernel

-- ZmodemDataScanFaults: no marker, a bad escape, a full payload, too few check bytes.
theorem witness_data_faults : EscapedAs (List.replicate 1024 0x41) (List.replicate 1024 0x41)
    ∧ (List.replicate 1024 (0x41 : Byte)).length = 1024 ∧ (0x41 : Byte) ≠ 0x18 ∧ (0x5F : Byte) &&& 0x60 = 0x40
    ∧ ¬ (0x68 ≤ (0x67 : Byte).toNat ∧ (0x67 : Byte).toNat ≤ 0x6B)
    ∧ ¬ (0x68 ≤ (0x6C : Byte).toNat ∧ (0x6C : Byte).toNat ≤ 0x6B)
    ∧ (0x67 : Byte) &&& 0x60 ≠ 0x40 ∧ EscapedAs [0x53] [0x53] ∧ [(0x53 : Byte)].length < 2 :=
  ⟨escapedAs_plain 1024, List.length_replicate, by decide, by decide, by decide, by decide, by decide,
    escapedAs_self _ (by decide), by decide⟩

-- ParsedUnitIsExactlyConsumed.
theorem witness_parsed_unit : ∃ t, isParser .fpZdat = true
    ∧ exec .fpZdat (withIbuf (hello ++ [0x18, 0x68, 0x53, 0x89, 0x04])) = .next t ∧ t.result = .ok :=
  ⟨_, by decide, next_of_isSome (by decide +kernel), by decide +kernel⟩

/-- A sender of "Hello" with variant Checksum. -/
def sumSender : State := { withTxp hello with txDesc := { State.reset.txDesc with blk := 0x01 } }

-- XmodemRoundTrip and SingleByteCorruptionDetected (position 0, the two number bytes, the first payload byte
-- and the trailer).
theorem witness_xmodem_round_trip : ∃ t r, sumSender.obuf = [] ∧ exec .fsXblk sumSender = .next t
    ∧ t.result = .ok ∧ r = withIbuf t.obuf ∧ r.cfg.xvar = sumSender.cfg.xvar :=
  ⟨_, _, rfl, next_of_isSome (by decide +kernel), by decide +kernel, rfl, by decide⟩

theorem witness_corruption : ∀ k ∈ [0, 1, 2, 3, 131], k < (nextD (exec .fsXblk sumSender)).obuf.length
    ∧ (nextD (exec .fsXblk sumSender)).obuf[k]? ≠ some 0xEE := by
  decide +kernel

-- YmodemRoundTrip, the end-of-batch half and the named half (V5.6 and shorter names end Ok).
theorem witness_yeob_round_trip : ∃ t, State.reset.obuf = [] ∧ exec .fsYeob State.reset = .next t :=
  ⟨nextD (exec .fsYeob State.reset), by decide, next_of_isSome (by decide +kernel)⟩

theorem witness_yb0_round_trip : ∃ t, (withTxp hello).obuf = [] ∧ exec .fsYb0 (withTxp hello) = .next t
    ∧ t.result = .ok := by
  have h1 : ¬ ((withTxp hello).txp.length = 0 ∨ (withTxp hello).txp.contains 0x00) := by decide
  have h2 : ¬ (yb0Text (withTxp hello).txp (withTxp hello).txYsize (withTxp hello).txYmtime
      (withTxp hello).txYmode).length > Config.xblkSmall := by decide +kernel
  have h3 : exec .fsYb0 (withTxp hello) = .next (endedOk (emitted (blockImage .crc 0x00
      (padTo Config.xblkSmall 0x00 (yb0Text (withTxp hello).txp (withTxp hello).txYsize
        (withTxp hello).txYmtime (withTxp hello).txYmode))) (withTxp hello))) := by
    simp only [exec, execFsYb0, if_neg h1, if_neg h2]
    exact finishEmit_fits _ _ _ (by decide +kernel)
  exact ⟨_, rfl, h3, rfl⟩

-- ZmodemHeaderRoundTrip and ZmodemDataRoundTrip.
theorem witness_header_round_trip : ∃ t, State.reset.obuf = [] ∧ exec .fsZhdr State.reset = .next t
    ∧ t.result = .ok ∧ (withIbuf t.obuf).ibuf = t.obuf :=
  ⟨_, rfl, next_of_isSome (by decide +kernel), by decide +kernel, rfl⟩

theorem witness_data_round_trip : ∃ t, (withTxp hello).obuf = [] ∧ (withTxp hello).txp.length ≤ 1024
    ∧ exec .fsZdat (withTxp hello) = .next t ∧ t.result = .ok
    ∧ (withIbuf t.obuf).cfg.zcrcw = (withTxp hello).cfg.zcrcw :=
  ⟨_, rfl, by decide, next_of_isSome (by decide +kernel), by decide +kernel, by decide⟩

-- RetryCommands: exhausted; not exhausted with the count one below the budget, and at it; armed before and at
-- the deadline.
theorem witness_retry : exhausted.rtStat.exh = true ∧ State.reset.rtStat.exh = false
    ∧ ((8 : Half) + 1).toNat < State.reset.rtMax.toNat ∧ State.reset.rtMax.toNat ≤ ((9 : Half) + 1).toNat
    ∧ (armedAt 4).now.toNat < (armedAt 4).rtDl.toNat ∧ (armedAt 5).rtStat.armed = true
    ∧ (armedAt 5).rtDl.toNat ≤ (armedAt 5).now.toNat := by
  decide

/-- Nine corrupt responses and a wait that expires at its deadline: the ten attempts of the default budget. -/
def tenFailures : List Failure := List.replicate 9 .corrupt ++ [.expiry 5 10005]

-- ExactlyMaxAttempts and NoSilentStall.
theorem witness_ten_failures : ∃ s, exec .rtRst exhausted = .next s ∧ tenFailures.getLast? = some (.expiry 5 10005)
    ∧ tenFailures.length ≤ max s.rtMax.toNat 1 ∧ max s.rtMax.toNat 1 ≤ tenFailures.length :=
  ⟨_, next_of_isSome (by decide), by decide, by decide, by decide⟩

theorem witness_failures_real : ∀ f ∈ tenFailures, failureReal State.reset.rtTmo f := by
  intro f hf
  simp only [tenFailures, List.mem_append, List.mem_replicate, List.mem_singleton] at hf
  rcases hf with ⟨-, rfl⟩ | rfl
  · trivial
  · show (5 : Time).toNat + State.reset.rtTmo.toNat ≤ (10005 : Time).toNat
    decide

theorem witness_failures_run : ∃ t, (armedAt 4).Inv ∧ countFailures tenFailures (armedAt 4) = .next t :=
  ⟨nextD (countFailures tenFailures (armedAt 4)), by decide, next_of_isSome (by decide +kernel)⟩

theorem witness_polls : (armedAt 4).rtStat.exh = false ∧ (armedAt 4).rtStat.armed = true
    ∧ ∃ n ∈ [(4 : Time), 5], (armedAt 4).rtDl.toNat ≤ n.toNat :=
  ⟨rfl, rfl, 5, by decide, by decide⟩

-- One poll before the deadline and one at it.
theorem witness_first_late_poll : (armedAt 4).rtStat.exh = false ∧ (armedAt 4).rtStat.armed = true
    ∧ (∀ m ∈ [(4 : Time)], m.toNat < (armedAt 4).rtDl.toNat)
    ∧ (armedAt 4).rtDl.toNat ≤ (5 : Time).toNat :=
  ⟨rfl, rfl, fun m hm => by rw [List.mem_singleton.mp hm]; decide, by decide⟩

-- ResultCodeNumbersAndClasses: RESULT after a fault.
theorem witness_result_number : (ended .overrun 0x03000000 State.reset).result = .overrun
    ∧ regRead 0x04 (ended .overrun 0x03000000 State.reset) = 0x11 := by
  decide

end Sys2Proof.Tests
end

section
/-! Reserved bits, read-only registers and reset values (R22, R23, R65): the register map's rows against the
reads and writes of the window. A register with a reserved bit is one of `narrowRegisters`; every other register
has all 32 bits assigned, and a reserved offset none. -/

namespace Sys2Proof.Machine

/-! ## The rows of the register map -/

/-- The offsets of the registers that have a reserved bit (R22 to R47). -/
def narrowRegisters : List Nat :=
  [0x00, 0x04, 0x08, 0x10, 0x1C, 0x20, 0x2C, 0x30, 0x44, 0x58, 0x6C, 0x70, 0x74, 0x7C]

theorem registerAt_some {off : Nat} {r : RegisterRow} (h : registerAt off = some r) :
    r ∈ registerMap ∧ r.off = off :=
  ⟨List.mem_of_find?_eq_some h, by simpa using List.find?_some h⟩

theorem assigned_allOnes_or_narrow :
    ∀ r ∈ registerMap, r.assigned = BitVec.allOnes 32 ∨ r.off ∈ narrowRegisters := by
  decide

/-- An offset is reserved, or its register has no reserved bit, or it is one of `narrowRegisters`. -/
theorem offset_cases (off : Nat) :
    registerAt off = none ∨ assignedBits off = BitVec.allOnes 32 ∨ off ∈ narrowRegisters := by
  cases h : registerAt off with
  | none => exact .inl rfl
  | some r =>
    obtain ⟨hmem, rfl⟩ := registerAt_some h
    exact .inr (by simpa only [assignedBits, h] using assigned_allOnes_or_narrow r hmem)

/-! ## Reserved offsets and read-only registers -/

theorem regRead_reserved {off : Nat} (h : registerAt off = none) (s : State) : regRead off s = 0 := by
  unfold regRead
  split
  case h_34 => rfl
  all_goals exact absurd h (by decide)

theorem hostWritable_reserved {off : Nat} (h : registerAt off = none) : hostWritable off = false := by
  rw [hostWritable, h]

theorem regWrite_not_writable {off : Nat} (h : hostWritable off = false) (v : Word) (s : State) :
    regWrite off v s = s := by
  unfold regWrite
  split
  case h_15 => rfl
  all_goals exact absurd h (by decide)

@[simp] theorem regWrite_result (off : Nat) (v : Word) (s : State) :
    (regWrite off v s).result = s.result := by
  unfold regWrite
  split <;> rfl

/-! ## Reserved bits read 0 -/

theorem setWidth_reserved {n : Nat} (x : BitVec n) :
    x.setWidth 32 &&& ~~~(BitVec.allOnes n).setWidth 32 = 0 := by
  ext i hi
  simpa using fun h => BitVec.lt_of_getLsbD h

theorem errflags_reserved (e : Word) : e &&& errflagsAssigned &&& ~~~errflagsAssigned = 0 := by
  rw [BitVec.and_assoc, BitVec.and_not_self, BitVec.ofNat_eq_ofNat, BitVec.and_zero]

/-- A word put together from fields keeps the reserved bits 0 when each field does. -/
theorem append_reserved {m n : Nat} {x a : BitVec m} {y b : BitVec n}
    (hx : x &&& ~~~a = 0) (hy : y &&& ~~~b = 0) : (x ++ y) &&& ~~~(a ++ b) = 0 := by
  rw [BitVec.not_append, BitVec.and_append, hx, hy]
  exact BitVec.zero_append_zero

theorem cfgWord_reserved (c : Cfg) : cfgWord c &&& ~~~0x00000113 = 0 := by
  have fields : (0x00000113 : Word) = 0#23 ++ 1#1 ++ 0#3 ++ 1#1 ++ 0#2 ++ 3#2 := by decide
  rw [cfgWord, fields]
  repeat' apply append_reserved
  all_goals simp

theorem zstateWord_reserved (z : ZState) : zstateWord z &&& ~~~0x000001FF = 0 := by
  have fields : (0x000001FF : Word) = 0#23 ++ 1#1 ++ 0xFF#8 := by decide
  rw [zstateWord, fields]
  repeat' apply append_reserved
  all_goals simp

theorem txDescWord_reserved (d : TxDesc) : txDescWord d &&& ~~~0x00331FFF = 0 := by
  have fields : (0x00331FFF : Word) = 0#10 ++ 3#2 ++ 0#2 ++ 3#2 ++ 0#3 ++ 0x1F#5 ++ 0xFF#8 := by decide
  rw [txDescWord, fields]
  repeat' apply append_reserved
  all_goals simp

theorem rxDescWord_reserved (d : RxDesc) : rxDescWord d &&& ~~~0x1F331FFF = 0 := by
  have fields : (0x1F331FFF : Word) = 0#3 ++ 1#1 ++ 1#1 ++ 1#1 ++ 1#1 ++ 1#1
      ++ 0#2 ++ 3#2 ++ 0#2 ++ 3#2 ++ 0#3 ++ 0x1F#5 ++ 0xFF#8 := by decide
  rw [rxDescWord, fields]
  repeat' apply append_reserved
  all_goals simp

theorem rtStatWord_reserved (r : RtStat) : rtStatWord r &&& ~~~0x0003FFFF = 0 := by
  have fields : (0x0003FFFF : Word) = 0#14 ++ 1#1 ++ 1#1 ++ 0xFFFF#16 := by decide
  rw [rtStatWord, fields]
  repeat' apply append_reserved
  all_goals simp

/-- A register with a reserved bit reads it as 0 (R23). -/
theorem regRead_narrow_reserved (s : State) :
    ∀ off ∈ narrowRegisters, regRead off s &&& ~~~(assignedBits off) = 0 := by
  simp only [narrowRegisters, List.forall_mem_cons]
  exact ⟨BitVec.zero_and, setWidth_reserved (codeNumber s.result), errflags_reserved s.errflags,
    cfgWord_reserved s.cfg, setWidth_reserved s.ck8, setWidth_reserved s.crc16, zstateWord_reserved s.zstate,
    txDescWord_reserved s.txDesc, rxDescWord_reserved s.rxDesc, setWidth_reserved s.rxYnlen,
    setWidth_reserved s.odata, setWidth_reserved s.rdata, setWidth_reserved s.rtMax,
    rtStatWord_reserved s.rtStat, nofun⟩

theorem regRead_reservedBits (off : Nat) (s : State) : regRead off s &&& ~~~(assignedBits off) = 0 := by
  rcases offset_cases off with h | h | h
  · rw [regRead_reserved h]
    exact BitVec.zero_and
  · rw [h, BitVec.not_allOnes]
    exact BitVec.and_zero
  · exact regRead_narrow_reserved s off h

/-! ## Writing a reserved bit or a reserved value has no effect -/

theorem flagsCleared_assigned {flags : Word} (h : flags &&& ~~~errflagsAssigned = 0) (v : Word) :
    flagsCleared (v &&& errflagsAssigned) flags = flagsCleared v flags := by
  unfold flagsCleared
  rw [BitVec.not_and, BitVec.and_or_distrib_left, h]
  exact BitVec.or_zero

theorem extractLsb'_assigned {start len : Nat} {a : Word} (h : a.extractLsb' start len = BitVec.allOnes len)
    (v : Word) : (v &&& a).extractLsb' start len = v.extractLsb' start len := by
  rw [BitVec.extractLsb'_and, h, BitVec.and_allOnes]

theorem getLsbD_assigned {i : Nat} {a : Word} (h : a.getLsbD i = true) (v : Word) :
    (v &&& a).getLsbD i = v.getLsbD i := by
  rw [BitVec.getLsbD_and, h, Bool.and_true]

theorem lowByte_assigned (v : Word) : (v &&& 0x000000FF).extractLsb' 0 8 = v.extractLsb' 0 8 :=
  extractLsb'_assigned (by decide) v

theorem lowHalf_assigned (v : Word) : (v &&& 0x0000FFFF).extractLsb' 0 16 = v.extractLsb' 0 16 :=
  extractLsb'_assigned (by decide) v

theorem cfgWrite_assigned (v : Word) (old : Cfg) : cfgWrite (v &&& 0x00000113) old = cfgWrite v old := by
  simp (disch := decide) only [cfgWrite, extractLsb'_assigned, getLsbD_assigned]

theorem txDescWrite_assigned (v : Word) (old : TxDesc) :
    txDescWrite (v &&& 0x00331FFF) old = txDescWrite v old := by
  simp (disch := decide) only [txDescWrite, extractLsb'_assigned]

/-- The write of a register with a reserved bit takes the assigned bits only (R23). -/
theorem regWrite_narrow_assigned (v : Word) {s : State} (h : s.errflags &&& ~~~errflagsAssigned = 0) :
    ∀ off ∈ narrowRegisters, regWrite off (v &&& assignedBits off) s = regWrite off v s := by
  simp only [narrowRegisters, List.forall_mem_cons]
  refine ⟨rfl, rfl, ?errflags, ?cfg, ?ck8, ?crc16, rfl, ?txDesc, rfl, rfl, rfl, rfl, ?rtMax, rfl, nofun⟩
  case errflags => exact congrArg (fun x => { s with errflags := x }) (flagsCleared_assigned h v)
  case cfg => exact congrArg (fun x => { s with cfg := x }) (cfgWrite_assigned v s.cfg)
  case ck8 => exact congrArg (fun x => { s with ck8 := x }) (lowByte_assigned v)
  case crc16 => exact congrArg (fun x => { s with crc16 := x }) (lowHalf_assigned v)
  case txDesc => exact congrArg (fun x => { s with txDesc := x }) (txDescWrite_assigned v s.txDesc)
  case rtMax => exact congrArg (fun x => { s with rtMax := x }) (lowHalf_assigned v)

theorem regWrite_assignedBits (off : Nat) (v : Word) {s : State} (h : s.errflags &&& ~~~errflagsAssigned = 0) :
    regWrite off (v &&& assignedBits off) s = regWrite off v s := by
  rcases offset_cases off with hoff | hoff | hoff
  · have keeps := hostWritable_reserved hoff
    rw [regWrite_not_writable keeps, regWrite_not_writable keeps]
  · rw [hoff, BitVec.and_allOnes]
  · exact regWrite_narrow_assigned v h off hoff

theorem xvarWrite_reserved (old : XVariant) : xvarWrite 3 old = old := rfl

theorem zencWrite_reserved (old : ZEncoding) : zencWrite 3 old = old := rfl

theorem regWrite_cfg_reserved {v : Word} (h : v.extractLsb' 0 2 = 3) (s : State) :
    regWrite 0x10 v s =
      { s with cfg := { xvar := s.cfg.xvar, zcrcw := v.getLsbD 4, crctx := v.getLsbD 8 } } := by
  simp only [regWrite, cfgWrite, h, xvarWrite_reserved]

theorem regWrite_txDesc_reserved {v : Word} (h : v.extractLsb' 16 2 = 3) (s : State) :
    regWrite 0x30 v s =
      { s with txDesc := { blk := v.extractLsb' 0 8, ztype := v.extractLsb' 8 5, zenc := s.txDesc.zenc,
                           zend := v.extractLsb' 20 2 } } := by
  simp only [regWrite, txDescWrite, h, zencWrite_reserved]

/-- Settles O9: an offset is reserved, fully assigned, or one of the registers with a reserved bit, and each
clause follows from the lemma of that case. -/
theorem reservedBitsAndReadOnlyRegisters : Obligations.ReservedBitsAndReadOnlyRegisters := by
  intro s off v
  refine ⟨regRead_reservedBits off s, fun h => regWrite_not_writable h v s, fun hinv => ?_,
    fun h => regWrite_cfg_reserved h s, fun h => regWrite_txDesc_reserved h s, regWrite_result off v s⟩
  obtain ⟨-, hflags, -⟩ := hinv
  exact (regWrite_assignedBits off v hflags).symm

/-! ## The values after reset (R65) -/

theorem regRead_reset : ∀ r ∈ registerMap, regRead r.off State.reset = r.resetValue := by
  decide

/-- Settles O12: the map's rows one by one, and every reserved offset by `regRead_reserved`. -/
theorem resetRegisterValues : Obligations.ResetRegisterValues :=
  ⟨regRead_reset, rfl, fun _ h => regRead_reserved h State.reset, rfl, rfl, rfl, rfl⟩

end Sys2Proof.Machine
end

section
/-! The accesses the block performs (R83): an access that is not accepted is refused by name, an accepted read
answers the host, and an accepted write of a register or of a command answers a next state, because every command
ends in the status update of R273. -/

namespace Sys2Proof.Machine

/-! ## Every command ends in a status update -/

/-- The result of the command `i` is its status update, with some code, of some state (R273). -/
def EndsInStatusUpdate (i : Instr) (r : Result) : Prop := ∃ c u, r = finish i c u

theorem EndsInStatusUpdate.next {i : Instr} {r : Result} (h : EndsInStatusUpdate i r) : ∃ u, r = .next u := by
  obtain ⟨c, u, rfl⟩ := h
  exact ⟨statusUpdate (encode i) c u, rfl⟩

theorem endsInStatusUpdate_finish (i : Instr) (c : ResultCode) (s : State) :
    EndsInStatusUpdate i (finish i c s) := ⟨c, s, rfl⟩

theorem endsInStatusUpdate_ite {p : Prop} [Decidable p] {i : Instr} {a b : Result}
    (ha : EndsInStatusUpdate i a) (hb : EndsInStatusUpdate i b) : EndsInStatusUpdate i (if p then a else b) := by
  split
  · exact ha
  · exact hb

/-- A check of one condition, each branch ending the command at once. -/
theorem endsInStatusUpdate_checked {p : Prop} [Decidable p] (i : Instr) (c d : ResultCode) (s t : State) :
    EndsInStatusUpdate i (if p then finish i c s else finish i d t) :=
  endsInStatusUpdate_ite (endsInStatusUpdate_finish i c s) (endsInStatusUpdate_finish i d t)

theorem endsInStatusUpdate_finishEmit (i : Instr) (w : List Byte) (s : State) :
    EndsInStatusUpdate i (finishEmit i w s) :=
  endsInStatusUpdate_checked i .bufferFull .ok s (emit w s)

theorem endsInStatusUpdate_finishBump (i : Instr) (c : ResultCode) (s : State) :
    EndsInStatusUpdate i (finishBump i c s) :=
  endsInStatusUpdate_finish ..

/-! The commands that look at a buffer's first byte, at the escape decoder or at a parser's scan, and the one that
emits a fixed block. -/

theorem execObPop_ends (s : State) : EndsInStatusUpdate .obPop (execObPop s) := by
  unfold execObPop
  split <;> exact endsInStatusUpdate_finish ..

theorem execRpPop_ends (s : State) : EndsInStatusUpdate .rpPop (execRpPop s) := by
  unfold execRpPop
  split <;> exact endsInStatusUpdate_finish ..

theorem execZdPut_ends (b : Byte) (s : State) : EndsInStatusUpdate (.zdPut b) (execZdPut b s) := by
  unfold execZdPut
  split
  · exact endsInStatusUpdate_finish ..
  · exact endsInStatusUpdate_finish ..
  · exact endsInStatusUpdate_checked ..

theorem execZdBuf_ends (s : State) : EndsInStatusUpdate .zdBuf (execZdBuf s) := by
  unfold execZdBuf
  split
  · exact endsInStatusUpdate_finish ..
  · exact endsInStatusUpdate_checked ..

theorem execFsYeob_ends (s : State) : EndsInStatusUpdate .fsYeob (execFsYeob s) := by
  unfold execFsYeob
  exact endsInStatusUpdate_finishEmit ..

theorem execFpXblk_ends (s : State) : EndsInStatusUpdate .fpXblk (execFpXblk s) := by
  unfold execFpXblk
  split
  · exact endsInStatusUpdate_finish ..
  · exact endsInStatusUpdate_checked ..

theorem execFpYb0_ends (s : State) : EndsInStatusUpdate .fpYb0 (execFpYb0 s) := by
  unfold execFpYb0
  split
  · exact endsInStatusUpdate_finish ..
  · exact endsInStatusUpdate_ite (endsInStatusUpdate_finish ..) (endsInStatusUpdate_checked ..)

theorem execFpZhdr_ends (s : State) : EndsInStatusUpdate .fpZhdr (execFpZhdr s) := by
  unfold execFpZhdr
  split
  · exact endsInStatusUpdate_finish ..
  · exact endsInStatusUpdate_ite (endsInStatusUpdate_finish ..) (endsInStatusUpdate_checked ..)

theorem execFpZdat_ends (s : State) : EndsInStatusUpdate .fpZdat (execFpZdat s) := by
  unfold execFpZdat
  split
  · exact endsInStatusUpdate_finish ..
  · exact endsInStatusUpdate_checked ..

/-- Every command ends in its status update, whatever its code (R273): the cases are the shapes of the
commands' definitions. -/
theorem exec_endsInStatusUpdate (i : Instr) (s : State) : EndsInStatusUpdate i (exec i s) := by
  cases i with
  | nop | srst | ibClr | ibDrop | ibHunt | obClr | tpClr | rpClr | ck8Init | ck8Upd | ck8Buf | c16Init | c16Upd
  | c16Buf | c32Init | c32Upd | c32Buf | zeRst | zdRst | rtRst => exact endsInStatusUpdate_finish ..
  | ibPush | tpPush | zdEnd | rtArm | rtOk => exact endsInStatusUpdate_checked ..
  | obPush | zePut | zeBuf | fsZdat => exact endsInStatusUpdate_finishEmit ..
  | fsXblk | fsZhdr =>
    exact endsInStatusUpdate_ite (endsInStatusUpdate_finish ..) (endsInStatusUpdate_finishEmit ..)
  | fsYb0 =>
    exact endsInStatusUpdate_ite (endsInStatusUpdate_finish ..)
      (endsInStatusUpdate_ite (endsInStatusUpdate_finish ..) (endsInStatusUpdate_finishEmit ..))
  | rtFail => exact endsInStatusUpdate_ite (endsInStatusUpdate_finish ..) (endsInStatusUpdate_finishBump ..)
  | rtPoll =>
    exact endsInStatusUpdate_ite (endsInStatusUpdate_finish ..)
      (endsInStatusUpdate_ite (endsInStatusUpdate_finish ..)
        (endsInStatusUpdate_ite (endsInStatusUpdate_finish ..) (endsInStatusUpdate_finishBump ..)))
  | obPop => exact execObPop_ends s
  | rpPop => exact execRpPop_ends s
  | zdPut b => exact execZdPut_ends b s
  | zdBuf => exact execZdBuf_ends s
  | fsYeob => exact execFsYeob_ends s
  | fpXblk => exact execFpXblk_ends s
  | fpYb0 => exact execFpYb0_ends s
  | fpZhdr => exact execFpZhdr_ends s
  | fpZdat => exact execFpZdat_ends s

/-- No command faults the machine or is refused by it. -/
theorem exec_next (i : Instr) (s : State) : ∃ u, exec i s = .next u := (exec_endsInStatusUpdate i s).next

/-! ## Accepted and refused accesses -/

theorem runCommand_next (w : Word) (s : State) : ∃ u, runCommand w s = .next u := by
  unfold runCommand
  split
  case h_1 i _ => exact exec_next i s
  case h_2 => exact ⟨_, finishIllegal_eq w s⟩

theorem busWrite_next (off : Nat) (v : Word) (s : State) : ∃ u, busWrite off v s = .next u := by
  unfold busWrite
  split
  · exact runCommand_next v s
  · exact ⟨_, rfl⟩

/-- An aligned offset is inside the window exactly when it is at most the last word's, 0xFC (R83). -/
theorem accessAccepted_iff_le (off bytes : Nat) :
    accessAccepted off bytes = true ↔ bytes = 4 ∧ off % 4 = 0 ∧ off ≤ 0xFC := by
  rw [accessAccepted_iff]
  omega

theorem perform_read (off bytes : Nat) (s : State) : perform (.read off bytes) s =
    if accessAccepted off bytes then busRead off s else .refused .unacceptedAccess := rfl

theorem perform_write (off bytes : Nat) (v : Word) (s : State) : perform (.write off bytes v) s =
    if accessAccepted off bytes then busWrite off v s else .refused .unacceptedAccess := rfl

/-- Settles O10: the step performs the access, the bus's own check is the statement's (`accessAccepted_iff_le`),
and an access that passes it answers a next state (`busWrite_next` for a write, by definition for a read). -/
theorem unacceptedAccessIsRefused : Obligations.UnacceptedAccessIsRefused := by
  intro s t off n v rest hpending
  rw [← accessAccepted_iff_le]
  rcases hpending with hread | hwrite
  · rw [step_pending hread, perform_read]
    exact ⟨fun h => if_neg h, fun h => ⟨_, if_pos h⟩⟩
  · rw [step_pending hwrite, perform_write]
    refine ⟨fun h => if_neg h, fun h => ?_⟩
    rw [if_pos h]
    exact busWrite_next off v _

end Sys2Proof.Machine
end

section
/-! The opcode map against the decoder (R111 to R114): a word with a row's opcode is decoded in the row's format,
and it passes the format's check of its zero field exactly when it matches the row. -/

namespace Sys2Proof.Machine

/-! ## The fields of a command word -/

theorem opField_eq_shiftRight (w : Word) : opField w = (w >>> 24).setWidth 8 := by
  ext i hi
  simp [opField]

theorem imm8_eq_setWidth (w : Word) : imm8 w = w.setWidth 8 := by
  ext i hi
  simp [imm8]

theorem imm16_eq_mod (w : Word) : imm16 w = w.toNat % 65536 := by
  simp [imm16]

/-- A word masked to bits `31 .. k` is its opcode alone exactly when its field in bits `23 .. k` is zero (R112). -/
theorem masked_eq_opcode_iff (w : Word) {k : Nat} (hk : k ≤ 24) :
    w &&& BitVec.allOnes 32 <<< k = (opField w).setWidth 32 <<< 24 ↔ w.extractLsb' k (24 - k) = 0 := by
  have hmasked (i : Nat) : (w &&& BitVec.allOnes 32 <<< k).getLsbD i = (w.getLsbD i && decide (k ≤ i)) := by
    rw [BitVec.getLsbD_and, BitVec.getLsbD_shiftLeft, BitVec.getLsbD_allOnes]
    grind
  have hopcode (i : Nat) : ((opField w).setWidth 32 <<< 24).getLsbD i = (w.getLsbD i && decide (24 ≤ i)) := by
    grind [opField]
  simp only [BitVec.eq_of_getLsbD_eq_iff, hmasked, hopcode, BitVec.getLsbD_extractLsb', BitVec.ofNat_eq_ofNat,
    BitVec.getLsbD_zero]
  constructor
  · intro h i hi
    have hlow : ¬ 24 ≤ k + i := by omega
    simpa [hi, hlow] using h (k + i) (by omega)
  · intro h i _
    by_cases hzero : k ≤ i ∧ i < 24
    · obtain ⟨hki, hlow⟩ := hzero
      have hfield : i - k < 24 - k := by omega
      simpa [hfield, hki, Nat.not_le.mpr hlow] using h (i - k) hfield
    · have hiff : k ≤ i ↔ 24 ≤ i := by omega
      rw [decide_eq_decide.mpr hiff]

/-! ## A row's format -/

/-- The decoder's reading of a word in a row's format (R111). -/
def decodeForm (w : Word) : CommandForm → Except IllegalWord Instr
  | .none i => formatN w i
  | .byte f => formatB w f
  | .half f => formatH w f

theorem decodeForm_eq {w : Word} {r : OpcodeRow} (hop : opField w = r.op) :
    decodeForm w r.form =
      if Matches w r then .ok (formCommand w r.form) else .error .nonzeroZeroField := by
  obtain ⟨op, form⟩ := r
  subst hop
  cases form with
  | none i => exact if_congr (masked_eq_opcode_iff w (k := 0) (by decide)).symm rfl rfl
  | byte f =>
    rw [formCommand, ← imm8_eq_setWidth]
    exact if_congr (masked_eq_opcode_iff w (k := 8) (by decide)).symm rfl rfl
  | half f =>
    rw [formCommand, ← imm16_eq_mod]
    exact if_congr (masked_eq_opcode_iff w (k := 16) (by decide)).symm rfl rfl

/-! ## The rows of the map -/

theorem decode_of_row {w : Word} : ∀ r ∈ opcodeMap, opField w = r.op → decode w = decodeForm w r.form := by
  simp only [opcodeMap, opcodeMapSystem, opcodeMapChecksum, opcodeMapEscape, opcodeMapSerializer, opcodeMapParser,
    opcodeMapRetry, List.cons_append, List.nil_append, List.forall_mem_cons,
    List.not_mem_nil, false_implies, implies_true, and_true]
  and_intros
  all_goals
    intro h
    rw [decode, h]
    rfl

theorem decode_of_no_row {w : Word} (h : ∀ r ∈ opcodeMap, opField w ≠ r.op) :
    decode w = .error .unassignedOpcode := by
  replace h : ∀ r ∈ opcodeMap, (opField w).toNat ≠ r.op.toNat := fun r hr e => h r hr (BitVec.eq_of_toNat_eq e)
  unfold decode
  generalize (opField w).toNat = n at h ⊢
  split
  case h_44 => rfl
  all_goals exact absurd h (by decide)

/-- Settles O3: a row's word is decoded in the row's format (`decode_of_row`), whose check is the row's match
(`decodeForm_eq`), and the default branch of the decoder is reached without a row (`decode_of_no_row`). -/
theorem decoderFollowsOpcodeMap : Obligations.DecoderFollowsOpcodeMap := by
  refine ⟨rfl, by decide, fun w r hr hop => ?_, fun w hno => ?_⟩
  · rw [← opField_eq_shiftRight] at hop
    rw [decode_of_row r hr hop, decodeForm_eq hop]
    exact ⟨fun hm => if_pos hm, fun hm => if_neg hm⟩
  · exact decode_of_no_row fun r hr => opField_eq_shiftRight w ▸ hno r hr

end Sys2Proof.Machine
end

section
/-! The buffer commands (spec/40_system_buffers.md R133 to R143): their words decode to them, and each ends `Ok`
after its effect on its own buffer, or with the fault of a full or an empty buffer and no effect. -/

namespace Sys2Proof.Machine

/-! ## The encoder's words decode -/

/-- A word that matches a row has the row's opcode: every format's mask covers `OP` (R111, R112). -/
theorem opField_of_matches {w : Word} {r : OpcodeRow} (h : Matches w r) : opField w = r.op := by
  obtain ⟨op, form⟩ := r
  have maskCoversOp : (formMask form).extractLsb' 24 8 = BitVec.allOnes 8 := by
    unfold formMask
    split <;> decide
  calc opField w = opField (w &&& formMask form) := (extractLsb'_assigned maskCoversOp w).symm
    _ = opField (op.setWidth 32 <<< 24) := congrArg opField h
    _ = op := by
      ext i hi
      have hword : 24 + i < 32 := by omega
      simp [opField, BitVec.getLsbD_eq_getElem hi, hword]

/-- A command whose word has the layout of its row decodes from that word. -/
theorem decode_encode_of_layout {i : Instr} (hlayout : Laws.EncodingLayout.Statement i)
    (hwf : i.wellFormed = true) : decode (encode i) = .ok i := by
  obtain ⟨r, hmem, hmatch, hcommand⟩ := hlayout hwf
  have hop := opField_of_matches hmatch
  rw [decode_of_row r hmem hop, decodeForm_eq hop, if_pos hmatch, hcommand]

/-! ## A command that checks its buffer first -/

theorem finish_checked_ok {p : Prop} [Decidable p] (i : Instr) (c : ResultCode) (s t : State) (h : ¬ p) :
    (if p then finish i c s else finish i .ok t) = .next (endedOk t) := by
  rw [if_neg h, finish_ok]

theorem finish_checked_fault {p : Prop} [Decidable p] (i : Instr) {c : ResultCode} (hc : c ≠ .ok)
    (s t : State) (h : p) :
    (if p then finish i c s else finish i .ok t) = .next (ended c (encode i) s) := by
  rw [if_pos h, finish_other i c s hc]

/-! ## IBUF (R133 to R136) -/

theorem exec_ibPush_ok {s : State} (b : Byte) (h : s.ibuf.length ≠ 4096) :
    exec (.ibPush b) s = .next (endedOk { s with ibuf := s.ibuf ++ [b] }) :=
  finish_checked_ok (.ibPush b) .bufferFull s _ h

theorem exec_ibPush_full {s : State} (b : Byte) (h : s.ibuf.length = 4096) :
    exec (.ibPush b) s = .next (ended .bufferFull (encode (.ibPush b)) s) :=
  finish_checked_fault (.ibPush b) (by decide) s _ h

theorem exec_ibClr (s : State) : exec .ibClr s = .next (endedOk { s with ibuf := [] }) :=
  finish_ok ..

theorem exec_ibDrop (n : Nat) (s : State) :
    exec (.ibDrop n) s = .next (endedOk { s with ibuf := s.ibuf.drop (min n s.ibuf.length) }) :=
  finish_ok ..

/-- Settles O24: the words with an operand by their layout (`decode_encode_of_layout`), each command by its
equations. -/
theorem inputBufferPushClearDrop : Obligations.InputBufferPushClearDrop := by
  refine ⟨fun b s => ?_, fun s => ⟨rfl, exec_ibClr s⟩, fun n s hn => ?_⟩
  · rw [← encode_ibPush]
    exact ⟨decode_encode_of_layout (Laws.EncodingLayout.ibPush b) rfl, exec_ibPush_ok b, exec_ibPush_full b⟩
  · rw [← encode_ibDrop n hn]
    exact ⟨decode_encode_of_layout (Laws.EncodingLayout.ibDrop n) (decide_eq_true hn), exec_ibDrop n s⟩

theorem exec_ibHunt (s : State) :
    exec .ibHunt s = .next (endedOk { s with ibuf := s.ibuf.dropWhile (· != 0x2A) }) :=
  finish_ok ..

/-- Dropping up to a value drops as many elements as the smallest index that holds it. -/
theorem dropWhile_ne_eq_drop {α : Type*} [BEq α] [LawfulBEq α] {a : α} {l : List α} {k : Nat}
    (hk : l[k]? = some a) (hmin : ∀ j < k, l[j]? ≠ some a) : l.dropWhile (· != a) = l.drop k := by
  induction l generalizing k with
  | nil => simp at hk
  | cons x xs ih =>
    cases k with
    | zero =>
      have hx : x = a := by simpa using hk
      simp [hx]
    | succ k =>
      have hx : x ≠ a := by simpa using hmin 0 (Nat.succ_pos k)
      have hrest := ih (k := k) (by simpa using hk) fun j hj => by simpa using hmin (j + 1) (Nat.succ_lt_succ hj)
      simp [hx, hrest]

theorem dropWhile_ne_eq_nil {α : Type*} [BEq α] [LawfulBEq α] {a : α} {l : List α} (h : a ∉ l) :
    l.dropWhile (· != a) = [] := by
  rw [List.dropWhile_eq_nil_iff]
  intro x hx
  exact bne_iff_ne.mpr fun hxa => h (hxa ▸ hx)

/-- Settles O25: the command drops while a byte is not 0x2A, which is a drop of the smallest index's length
(`dropWhile_ne_eq_drop`) or of everything (`dropWhile_ne_eq_nil`). -/
theorem huntDropsUpToFirstPad : Obligations.HuntDropsUpToFirstPad := by
  intro s
  refine ⟨rfl, fun k hk hmin => ?_, fun hno => ?_⟩
  · rw [exec_ibHunt, dropWhile_ne_eq_drop hk hmin]
  · rw [exec_ibHunt, dropWhile_ne_eq_nil hno]

/-! ## TXP and RXP (R137 to R140) -/

theorem exec_tpPush_ok {s : State} (b : Byte) (h : s.txp.length ≠ 1024) :
    exec (.tpPush b) s = .next (endedOk { s with txp := s.txp ++ [b] }) :=
  finish_checked_ok (.tpPush b) .bufferFull s _ h

theorem exec_tpPush_full {s : State} (b : Byte) (h : s.txp.length = 1024) :
    exec (.tpPush b) s = .next (ended .bufferFull (encode (.tpPush b)) s) :=
  finish_checked_fault (.tpPush b) (by decide) s _ h

theorem exec_tpClr (s : State) : exec .tpClr s = .next (endedOk { s with txp := [] }) :=
  finish_ok ..

theorem exec_rpPop_empty {s : State} (h : s.rxp = []) :
    exec .rpPop s = .next (ended .bufferEmpty (encode .rpPop) s) := by
  rw [exec, execRpPop, h, finish_other _ _ _ (by decide)]

theorem exec_rpPop_cons {s : State} {b : Byte} {rest : List Byte} (h : s.rxp = b :: rest) :
    exec .rpPop s = .next (endedOk { s with rdata := b, rxp := rest }) := by
  rw [exec, execRpPop, h]
  exact finish_ok ..

theorem exec_rpClr (s : State) : exec .rpClr s = .next (endedOk { s with rxp := [] }) :=
  finish_ok ..

/-- Settles O26: the words with an operand by their layout (`decode_encode_of_layout`), each command by its
equations. -/
theorem payloadBufferCommands : Obligations.PayloadBufferCommands := by
  refine ⟨fun b s => ?_, fun s => ⟨rfl, exec_tpClr s⟩,
    fun s => ⟨rfl, exec_rpPop_empty, fun _ _ => exec_rpPop_cons⟩, fun s => ⟨rfl, exec_rpClr s⟩⟩
  rw [← encode_tpPush]
  exact ⟨decode_encode_of_layout (Laws.EncodingLayout.tpPush b) rfl, exec_tpPush_ok b, exec_tpPush_full b⟩

/-! ## OBUF (R141 to R143) -/

theorem emitted_singleton (b : Byte) (s : State) :
    emitted [b] s = { s with obuf := s.obuf ++ [b], zstate := { s.zstate with zeLast := b } } := rfl

theorem exec_obPush_fits {s : State} (b : Byte) (h : s.obuf.length + 1 ≤ 4096) :
    exec (.obPush b) s =
      .next (endedOk { s with obuf := s.obuf ++ [b], zstate := { s.zstate with zeLast := b } }) := by
  rw [← emitted_singleton]
  exact finishEmit_fits (.obPush b) [b] s h

theorem exec_obPush_full {s : State} (b : Byte) (h : 4096 < s.obuf.length + 1) :
    exec (.obPush b) s = .next (ended .bufferFull (encode (.obPush b)) s) :=
  finishEmit_full (.obPush b) [b] s h

theorem exec_obPop_empty {s : State} (h : s.obuf = []) :
    exec .obPop s = .next (ended .bufferEmpty (encode .obPop) s) := by
  rw [exec, execObPop, h, finish_other _ _ _ (by decide)]

theorem exec_obPop_cons {s : State} {b : Byte} {rest : List Byte} (h : s.obuf = b :: rest) :
    exec .obPop s = .next (endedOk { s with odata := b, obuf := rest }) := by
  rw [exec, execObPop, h]
  exact finish_ok ..

theorem exec_obClr (s : State) : exec .obClr s = .next (endedOk { s with obuf := [] }) :=
  finish_ok ..

/-- Settles O27: the words with an operand by their layout (`decode_encode_of_layout`), each command by its
equations. -/
theorem outputBufferCommands : Obligations.OutputBufferCommands := by
  refine ⟨fun b s => ?_, fun s => ⟨rfl, exec_obPop_empty, fun _ _ => exec_obPop_cons⟩,
    fun s => ⟨rfl, exec_obClr s⟩⟩
  rw [← encode_obPush]
  exact ⟨decode_encode_of_layout (Laws.EncodingLayout.obPush b) rfl, exec_obPush_fits b, exec_obPush_full b⟩

end Sys2Proof.Machine
end

section
/-! The checksum engine (spec/41_checksum.md R151 to R167). The table forms of the two CRC steps rest on the
shifts being linear, and on the eight shifts being a plain shift by a byte where no bit that leaves is set; the
zero residue of CRC-16 is the table form used twice. -/

namespace Sys2Proof.Machine

/-! ## Several shifts at once -/

theorem iterate_crc16Shift_xor (n : Nat) (a b : Half) :
    crc16Shift^[n] (a ^^^ b) = crc16Shift^[n] a ^^^ crc16Shift^[n] b :=
  Function.Semiconj₂.iterate crc16Shift_xor n a b

theorem iterate_crc32Shift_xor (n : Nat) (a b : Word) :
    crc32Shift^[n] (a ^^^ b) = crc32Shift^[n] a ^^^ crc32Shift^[n] b :=
  Function.Semiconj₂.iterate crc32Shift_xor n a b

/-- No polynomial enters while the top bits, which leave the register, are clear. -/
theorem iterate_crc16Shift_of_clear {n : Nat} (c : Half)
    (hclear : ∀ i, 16 - n ≤ i → c.getLsbD i = false) : crc16Shift^[n] c = c <<< n := by
  induction n generalizing c with
  | zero => simp
  | succ n ih =>
    have hshift : crc16Shift c = c <<< 1 := by
      rw [crc16Shift, if_neg (by rw [hclear 15 (by omega)]; decide)]
    have hrest (i : Nat) (hi : 16 - n ≤ i) : (c <<< 1).getLsbD i = false := by
      cases i with
      | zero => simp
      | succ i => simp [hclear i (by omega)]
    rw [Function.iterate_succ_apply, hshift, ih _ hrest, ← BitVec.shiftLeft_add, Nat.add_comm]

/-- No polynomial enters while the low bits, which leave the register, are clear. -/
theorem iterate_crc32Shift_of_clear {n : Nat} (c : Word)
    (hclear : ∀ i < n, c.getLsbD i = false) : crc32Shift^[n] c = c >>> n := by
  induction n generalizing c with
  | zero => simp
  | succ n ih =>
    have hshift : crc32Shift c = c >>> 1 := by
      rw [crc32Shift, if_neg (by rw [hclear 0 n.succ_pos]; decide)]
    have hrest (i : Nat) (hi : i < n) : (c >>> 1).getLsbD i = false := by
      simp [hclear (1 + i) (by omega)]
    rw [Function.iterate_succ_apply, hshift, ih _ hrest, ← BitVec.shiftRight_add, Nat.add_comm]

/-! ## The table forms (R154, R158) -/

theorem shiftLeft_ushiftRight_shiftLeft {w : Nat} (x : BitVec w) (n : Nat) : x <<< n >>> n <<< n = x <<< n := by
  ext i hi
  grind

theorem ushiftRight_shiftLeft_ushiftRight {w : Nat} (x : BitVec w) (n : Nat) : x >>> n <<< n >>> n = x >>> n := by
  ext i hi
  grind

/-- A step from 0 is the table entry of its byte. -/
theorem crc16Step_zero (b : Byte) : crc16Step 0x0000 b = crc16Shift^[8] (b.setWidth 16 <<< 8) := by
  rw [crc16Step, BitVec.ofNat_eq_ofNat, BitVec.zero_xor]

theorem crc32Step_zero (b : Byte) : crc32Step 0x00000000 b = crc32Shift^[8] (b.setWidth 32) := by
  rw [crc32Step, BitVec.ofNat_eq_ofNat, BitVec.zero_xor]

/-- A CRC-16 step's input is the register's low byte and, at the top, the table index. -/
theorem crc16_input_split (c : Half) (b : Byte) :
    c ^^^ b.setWidth 16 <<< 8 = (c <<< 8 >>> 8) ^^^ ((c >>> 8).setWidth 8 ^^^ b).setWidth 16 <<< 8 := by
  ext i hi
  grind

/-- A CRC-32 step's input is the register's three high bytes and, at the bottom, the table index. -/
theorem crc32_input_split (c : Word) (b : Byte) :
    c ^^^ b.setWidth 32 = (c >>> 8 <<< 8) ^^^ (c.setWidth 8 ^^^ b).setWidth 32 := by
  ext i hi
  grind

theorem crc16Step_table (c : Half) (b : Byte) :
    crc16Step c b = (c <<< 8) ^^^ crc16Step 0x0000 ((c >>> 8).setWidth 8 ^^^ b) := by
  have hlow : crc16Shift^[8] (c <<< 8 >>> 8) = c <<< 8 := by
    have hclear (i : Nat) (hi : 16 - 8 ≤ i) : (c <<< 8 >>> 8).getLsbD i = false := by
      rw [BitVec.getLsbD_ushiftRight, BitVec.getLsbD_of_ge _ _ (by omega)]
    rw [iterate_crc16Shift_of_clear _ hclear, shiftLeft_ushiftRight_shiftLeft]
  rw [crc16Step_zero, ← hlow, ← iterate_crc16Shift_xor, ← crc16_input_split, crc16Step]

theorem crc32Step_table (c : Word) (b : Byte) :
    crc32Step c b = (c >>> 8) ^^^ crc32Step 0x00000000 (c.setWidth 8 ^^^ b) := by
  have hhigh : crc32Shift^[8] (c >>> 8 <<< 8) = c >>> 8 := by
    have hclear (i : Nat) (hi : i < 8) : (c >>> 8 <<< 8).getLsbD i = false := by
      simp [hi]
    rw [iterate_crc32Shift_of_clear _ hclear, ushiftRight_shiftLeft_ushiftRight]
  rw [crc32Step_zero, ← hhigh, ← iterate_crc32Shift_xor, ← crc32_input_split, crc32Step]

/-- Settles O30: the table forms for every register value and byte, and the listed entries by computation. -/
theorem crcTableForms : Obligations.CrcTableForms :=
  ⟨crc16Step_table, by decide, by decide, crc32Step_table, by decide, by decide⟩

/-! ## Residue, streaming, save and restore (R155, R159) -/

/-- Feeding the register its own top byte shifts it out: the table index is 0. -/
theorem crc16Step_topByte (c : Half) : crc16Step c ((c >>> 8).setWidth 8) = c <<< 8 := by
  rw [crc16Step_table, BitVec.xor_self, show crc16Step 0x0000 0#8 = 0#16 by decide, BitVec.xor_zero]

/-- A register fed its own two bytes, high then low, is shifted out of itself. -/
theorem crc16_own_bytes (c : Half) : crc16 [(c >>> 8).setWidth 8, c.setWidth 8] c = 0x0000 := by
  have hlow : c.setWidth 8 = (c <<< 8 >>> 8).setWidth 8 := by
    ext i hi
    grind
  calc crc16 [(c >>> 8).setWidth 8, c.setWidth 8] c = crc16Step (c <<< 8) (c.setWidth 8) := by
        rw [crc16_cons, crc16Step_topByte]
        rfl
    _ = c <<< 8 <<< 8 := by rw [hlow, crc16Step_topByte]
    _ = 0x0000 := by
        rw [← BitVec.shiftLeft_add]
        exact BitVec.shiftLeft_eq_zero (by decide)

theorem ck8_append (x y : List Byte) (s : Byte) : ck8 (x ++ y) s = ck8 y (ck8 x s) := List.foldl_append

theorem crc16_append (x y : List Byte) (c : Half) : crc16 (x ++ y) c = crc16 y (crc16 x c) := List.foldl_append

theorem crc32Raw_append (x y : List Byte) (c : Word) : crc32Raw (x ++ y) c = crc32Raw y (crc32Raw x c) :=
  List.foldl_append

/-- The final XOR undone gives the raw register back. -/
theorem crc32_xor_xorout (d : List Byte) : crc32 d ^^^ 0xFFFFFFFF = crc32Raw d Config.crc32Init := by
  rw [crc32, Config.crc32Xorout, BitVec.xor_assoc, BitVec.xor_self, BitVec.xor_zero]

theorem crc32_append (x y : List Byte) :
    crc32 (x ++ y) = crc32Raw y (crc32 x ^^^ 0xFFFFFFFF) ^^^ 0xFFFFFFFF := by
  rw [crc32_xor_xorout, crc32, crc32Raw_append, Config.crc32Xorout]

/-- The low bits of a zero-extended register are the register: what makes save and restore exact. -/
theorem extractLsb'_setWidth {n : Nat} (hn : n ≤ 32) (x : BitVec n) :
    (x.setWidth 32).extractLsb' 0 n = x := by
  rw [BitVec.extractLsb'_setWidth_of_le (by omega), BitVec.extractLsb'_eq_self]

theorem regWrite_regRead_ck8 (saved s : State) :
    regWrite 0x1C (regRead 0x1C saved) s = { s with ck8 := saved.ck8 } :=
  congrArg (fun x => { s with ck8 := x }) (extractLsb'_setWidth (by decide) saved.ck8)

theorem regWrite_regRead_crc16 (saved s : State) :
    regWrite 0x20 (regRead 0x20 saved) s = { s with crc16 := saved.crc16 } :=
  congrArg (fun x => { s with crc16 := x }) (extractLsb'_setWidth (by decide) saved.crc16)

/-- Settles O31: the appended bytes are the register's own (`crc16_own_bytes`), each check is a fold over the
bytes, and a read keeps every bit the write takes. -/
theorem checksumLaws : Obligations.ChecksumLaws :=
  ⟨fun d => by rw [crc16_append, crc16_own_bytes], ck8_append, crc16_append, crc32Raw_append, crc32_append,
    fun saved s => ⟨regWrite_regRead_ck8 saved s, regWrite_regRead_crc16 saved s, rfl⟩⟩

/-! ## INIT and UPD (R160, R161, R163, R164, R166, R167) -/

theorem exec_ck8Init (s : State) : exec .ck8Init s = .next (endedOk { s with ck8 := 0x00 }) :=
  finish_ok ..

/-- The step of the sum is addition modulo 256 (R151). -/
theorem ck8Step_eq_ofNat (s b : Byte) : ck8Step s b = BitVec.ofNat 8 (s.toNat + b.toNat) := rfl

theorem exec_ck8Upd (b : Byte) (s : State) :
    exec (.ck8Upd b) s = .next (endedOk { s with ck8 := BitVec.ofNat 8 (s.ck8.toNat + b.toNat) }) := by
  rw [← ck8Step_eq_ofNat]
  exact finish_ok ..

theorem exec_c16Init (s : State) : exec .c16Init s = .next (endedOk { s with crc16 := 0x0000 }) :=
  finish_ok ..

theorem exec_c16Upd (b : Byte) (s : State) :
    exec (.c16Upd b) s = .next (endedOk { s with crc16 := crc16Step s.crc16 b }) :=
  finish_ok ..

theorem exec_c32Init (s : State) : exec .c32Init s = .next (endedOk { s with crc32Raw := 0xFFFFFFFF }) :=
  finish_ok ..

theorem exec_c32Upd (b : Byte) (s : State) :
    exec (.c32Upd b) s = .next (endedOk { s with crc32Raw := crc32Step s.crc32Raw b }) :=
  finish_ok ..

/-- Settles O28: the words with an operand by their layout (`decode_encode_of_layout`), each command by its
equation, and the single-byte values by computation. -/
theorem checksumInitAndUpdate : Obligations.ChecksumInitAndUpdate := by
  refine ⟨fun b s => ?_, by decide, by decide⟩
  rw [← encode_ck8Upd, ← encode_c16Upd, ← encode_c32Upd]
  exact ⟨rfl, exec_ck8Init s,
    decode_encode_of_layout (Laws.EncodingLayout.ck8Upd b) rfl, exec_ck8Upd b s, rfl, exec_c16Init s,
    decode_encode_of_layout (Laws.EncodingLayout.c16Upd b) rfl, exec_c16Upd b s, rfl, exec_c32Init s,
    decode_encode_of_layout (Laws.EncodingLayout.c32Upd b) rfl, exec_c32Upd b s⟩

end Sys2Proof.Machine
end

section
/-! The escape transform (spec/42_escape.md R171 to R182). The decoder and the relation `EscapedAs` hold of the same
pairs: a stream that stands for bytes decodes to them, and one that stands for none ends `InvalidEscape`. What the
encoder puts out stands for its input, which gives the round trip. -/

namespace Sys2Proof.Machine

/-! ## The decoder on a whole stream (R177) -/

theorem validEscape_iff (c : Byte) : validEscape c = true ↔ c &&& 0x60 = 0x40 := beq_iff_eq

theorem zdecFrom_cons_ok {p p' : Bool} {b : Byte} {out : Option Byte} (h : zdStep p b = .ok (out, p'))
    (w : List Byte) : zdecFrom p (b :: w) = (zdecFrom p' w).map (out.toList ++ ·) := by
  cases hw : zdecFrom p' w <;> simp [zdecFrom, h, hw, Except.map]

theorem zdec_plain {b : Byte} (h : b ≠ Config.zdle) (w : List Byte) : zdec (b :: w) = (zdec w).map (b :: ·) :=
  zdecFrom_cons_ok (zdStep_plain h) w

theorem zdec_introducer (w : List Byte) : zdec (Config.zdle :: w) = zdecFrom true w :=
  (zdecFrom_cons_ok zdStep_introducer w).trans (congrFun Except.map_id _)

theorem zdec_escape {c : Byte} (h : validEscape c = true) (w : List Byte) :
    zdec (Config.zdle :: c :: w) = (zdec w).map ((c ^^^ Config.escXor) :: ·) := by
  rw [zdec_introducer]
  exact zdecFrom_cons_ok (zdStep_pending h) w

theorem zdec_bad_escape {c : Byte} (h : validEscape c = false) (w : List Byte) :
    zdec (Config.zdle :: c :: w) = .error .invalidEscape := by
  rw [zdec_introducer, zdecFrom, zdStep_pending_bad h]

theorem zdec_of_escapedAs {w d : List Byte} (h : EscapedAs w d) : zdec w = .ok d := by
  induction h with
  | nil => rfl
  | plain b w d hb _ ih => exact (zdec_plain hb w).trans (congrArg (Except.map _) ih)
  | escape c w d hc _ ih =>
    exact (zdec_escape ((validEscape_iff c).mpr hc) w).trans (congrArg (Except.map _) ih)

/-- A stream stands for bytes, or the decoder meets a bad byte after an introducer or an introducer at the end. -/
theorem escapedAs_or_invalidEscape :
    ∀ w : List Byte, (∃ d, EscapedAs w d) ∨ zdec w = .error .invalidEscape
  | [] => .inl ⟨[], .nil⟩
  | b :: w => by
    by_cases hb : b = Config.zdle
    · subst hb
      match w with
      | [] => exact .inr rfl
      | c :: w =>
        cases hc : validEscape c with
        | false => exact .inr (zdec_bad_escape hc w)
        | true =>
          exact (escapedAs_or_invalidEscape w).imp
            (fun ⟨d, hd⟩ => ⟨_, .escape c w d ((validEscape_iff c).mp hc) hd⟩)
            fun herr => (zdec_escape hc w).trans (congrArg (Except.map _) herr)
    · exact (escapedAs_or_invalidEscape w).imp (fun ⟨d, hd⟩ => ⟨_, .plain b w d hb hd⟩)
        fun herr => (zdec_plain hb w).trans (congrArg (Except.map _) herr)

/-! ## ZD.BUF (R181) -/

theorem exec_zdBuf_of_zdec {s : State} {d : List Byte} (h : zdec s.ibuf = .ok d) : exec .zdBuf s =
    if d.length > Config.rxpCap then finish .zdBuf .bufferFull s
    else finish .zdBuf .ok { s with rxp := d, ibuf := [] } := by
  rw [exec, execZdBuf, h]

theorem exec_zdBuf_ok {s : State} {d : List Byte} (h : EscapedAs s.ibuf d) (hd : d.length ≤ 1024) :
    exec .zdBuf s = .next (endedOk { s with rxp := d, ibuf := [] }) := by
  rw [exec_zdBuf_of_zdec (zdec_of_escapedAs h)]
  exact finish_checked_ok .zdBuf .bufferFull s _ (Nat.not_lt.mpr hd)

theorem exec_zdBuf_full {s : State} {d : List Byte} (h : EscapedAs s.ibuf d) (hd : 1024 < d.length) :
    exec .zdBuf s = .next (ended .bufferFull (encode .zdBuf) s) := by
  rw [exec_zdBuf_of_zdec (zdec_of_escapedAs h)]
  exact finish_checked_fault .zdBuf (by decide) s _ hd

theorem exec_zdBuf_invalid {s : State} (h : ¬ ∃ d, EscapedAs s.ibuf d) :
    exec .zdBuf s = .next (ended .invalidEscape (encode .zdBuf) s) := by
  have herr := (escapedAs_or_invalidEscape s.ibuf).resolve_left h
  rw [exec, execZdBuf, herr]
  exact finish_other .zdBuf .invalidEscape s (by decide)

/-- Settles O35: the decoder answers what the stream stands for (`zdec_of_escapedAs`), and a stream that stands for
nothing is its error (`escapedAs_or_invalidEscape`). -/
theorem wholeBufferDecode : Obligations.WholeBufferDecode :=
  fun _ => ⟨rfl, fun _ => exec_zdBuf_ok, fun _ => exec_zdBuf_full, exec_zdBuf_invalid⟩

/-! ## The round trip (R182) -/

theorem escapable_of_escNeeded {map : BitVec 64} {crctx : Bool} {b last : Byte}
    (h : escNeeded map crctx b last = true) : escapable b = true :=
  Bool.and_elim_left h

/-- The wire bytes of one logical byte stand for it, in front of any stream. -/
theorem escapedAs_zenc1_append {map : BitVec 64} (hmap : map.getLsbD 24 = true) (crctx : Bool) (b last : Byte)
    {w d : List Byte} (h : EscapedAs w d) : EscapedAs ((zenc1 map crctx b last).1 ++ w) (b :: d) := by
  cases hb : escNeeded map crctx b last with
  | true =>
    obtain ⟨hvalid, hback⟩ := escapable_xor b (escapable_of_escNeeded hb)
    have hescape := EscapedAs.escape _ w d ((validEscape_iff _).mp hvalid) h
    rw [zenc1_escaped hb]
    exact hback.subst (motive := fun b' => EscapedAs _ (b' :: d)) hescape
  | false =>
    have hplain : b ≠ Config.zdle := by
      rintro rfl
      rw [escNeeded_zdle map crctx last hmap] at hb
      contradiction
    rw [zenc1_plain hb]
    exact .plain b w d hplain h

theorem escapedAs_zenc {map : BitVec 64} (hmap : map.getLsbD 24 = true) (crctx : Bool) (last : Byte)
    (x : List Byte) : EscapedAs (zenc map crctx last x).1 x := by
  induction x generalizing last with
  | nil => exact .nil
  | cons b x ih => exact escapedAs_zenc1_append hmap crctx b last (ih _)

theorem escapedAs_wireBytes (s : State) (d : List Byte) (last : Byte) : EscapedAs (wireBytes s d last) d :=
  escapedAs_zenc (escmap_introducer s) s.cfg.crctx last d

theorem emitted_obuf (w : List Byte) (s : State) : (emitted w s).obuf = s.obuf ++ w := by
  rw [← emit_eq_emitted]
  rfl

/-- A ZE.BUF that ends `Ok` has appended the wire bytes of `TXP` (R176). -/
theorem exec_zeBuf_obuf {s t : State} (h : exec .zeBuf s = .next t) (hok : t.result = .ok) :
    t.obuf = s.obuf ++ wireBytes s s.txp s.zstate.zeLast := by
  rcases finishEmit_cases (i := .zeBuf) h with ⟨-, rfl⟩ | ⟨-, rfl⟩
  · exact emitted_obuf ..
  · contradiction

/-- Settles O36: the encoder's output stands for its input (`escapedAs_zenc`, by induction on the bytes), and the
decoder answers what a stream stands for. -/
theorem escapeRoundTrip : Obligations.EscapeRoundTrip := by
  refine ⟨fun map crctx last x hmap => zdec_of_escapedAs (escapedAs_zenc hmap crctx last x),
    fun s t r hempty hexec hok hlen hwire => exec_zdBuf_ok ?_ hlen⟩
  rw [hwire, exec_zeBuf_obuf hexec hok, hempty]
  exact escapedAs_wireBytes s s.txp s.zstate.zeLast

/-! ## When a byte is escaped (R171 to R173) -/

theorem escapable_iff : ∀ b : Byte,
    escapable b = true ↔ b.toNat < 32 ∨ (128 ≤ b.toNat ∧ b.toNat < 160) := by
  decide +kernel

theorem escapeIndex_low : ∀ b : Byte, b.toNat < 32 → escapeIndex b = b.toNat := by
  decide +kernel

theorem escapeIndex_high :
    ∀ b : Byte, 128 ≤ b.toNat → b.toNat < 160 → escapeIndex b = b.toNat - 128 + 32 := by
  decide +kernel

theorem escmapHardwired_getLsbD (i : Nat) : escmapHardwired.getLsbD i = true ↔ i = 24 := by
  have hbit : escmapHardwired = BitVec.twoPow 32 24 := by decide
  rw [hbit, BitVec.getLsbD_twoPow, decide_eq_true (by decide), Bool.true_and, decide_eq_true_iff, eq_comm]

/-- The low half of the map has the introducer's bit at 1, whatever the register holds (R29). -/
theorem escmap_getLsbD_low (s : State) {i : Nat} (h : i < 32) :
    (escmap s).getLsbD i = true ↔ i = 24 ∨ s.escmapLo.getLsbD i = true := by
  rw [escmap, BitVec.getLsbD_append, if_pos h, escmapLoRead, BitVec.getLsbD_or, Bool.or_eq_true,
    escmapHardwired_getLsbD, or_comm]

theorem escmap_getLsbD_high (s : State) (i : Nat) : (escmap s).getLsbD (i + 32) = s.escmapHi.getLsbD i := by
  rw [escmap, BitVec.getLsbD_append, if_neg (by omega), Nat.add_sub_cancel]

/-- A byte that can be escaped is in the set when its bit in its half of the map is 1 (R171). -/
theorem inEscapeSet_iff (s : State) {b : Byte} (h : escapable b = true) :
    inEscapeSet (escmap s) b = true ↔
      if b.toNat < 32 then b = 0x18 ∨ s.escmapLo.getLsbD b.toNat = true
      else s.escmapHi.getLsbD (b.toNat - 128) = true := by
  rw [inEscapeSet, h, Bool.true_and]
  rcases (escapable_iff b).mp h with hlow | ⟨hge, hlt⟩
  · rw [if_pos hlow, escapeIndex_low b hlow, escmap_getLsbD_low s hlow, ← BitVec.toNat_inj]
    rfl
  · rw [if_neg (by omega), escapeIndex_high b hge hlt, escmap_getLsbD_high]

/-- A byte compared without its bit 7 is one of two bytes. -/
theorem and_low7_eq_iff (b : Byte) {c : Byte} (hc : c.toNat < 128) : b &&& 0x7F = c ↔ b = c ∨ b = c + 0x80 := by
  have hmod : (b &&& 0x7F).toNat = b.toNat % 128 := Nat.and_two_pow_sub_one_eq_mod b.toNat 7
  simp only [← BitVec.toNat_inj, hmod, BitVec.toNat_add, show (0x80 : Byte).toNat = 128 from rfl]
  omega

theorem crInContext_iff (crctx : Bool) (b last : Byte) : crInContext crctx b last = true ↔
    crctx = true ∧ (b = 0x0D ∨ b = 0x8D) ∧ (last = 0x40 ∨ last = 0xC0) := by
  have hb : b &&& 0x7F = 0x0D ↔ b = 0x0D ∨ b = 0x8D := and_low7_eq_iff b (by decide)
  have hlast : last &&& 0x7F = 0x40 ↔ last = 0x40 ∨ last = 0xC0 := and_low7_eq_iff last (by decide)
  rw [crInContext, Bool.and_eq_true, Bool.and_eq_true, beq_iff_eq, beq_iff_eq, hb, hlast, and_assoc]

theorem escNeeded_iff (s : State) (b : Byte) :
    escNeeded (escmap s) s.cfg.crctx b s.zstate.zeLast = true ↔
      (b.toNat < 32 ∨ (128 ≤ b.toNat ∧ b.toNat < 160))
      ∧ ((if b.toNat < 32 then b = 0x18 ∨ s.escmapLo.getLsbD b.toNat = true
          else s.escmapHi.getLsbD (b.toNat - 128) = true)
        ∨ s.cfg.crctx = true ∧ (b = 0x0D ∨ b = 0x8D) ∧ (s.zstate.zeLast = 0x40 ∨ s.zstate.zeLast = 0xC0)) := by
  rw [escNeeded, Bool.and_eq_true, Bool.or_eq_true, crInContext_iff, ← escapable_iff]
  exact and_congr_right fun h => or_congr_left (inEscapeSet_iff s h)

/-! ## ZE.RST and ZE.PUT (R174, R175) -/

theorem exec_zeRst (s : State) :
    exec .zeRst s = .next (endedOk { s with zstate := { s.zstate with zeLast := 0x00 } }) :=
  finish_ok ..

theorem exec_zePut_escaped {s : State} {b : Byte}
    (h : escNeeded (escmap s) s.cfg.crctx b s.zstate.zeLast = true) :
    exec (.zePut b) s = finishEmit (.zePut b) [0x18, b ^^^ 0x40] s := by
  rw [exec, execZePut, zenc1_escaped h]
  rfl

theorem exec_zePut_plain {s : State} {b : Byte}
    (h : ¬ escNeeded (escmap s) s.cfg.crctx b s.zstate.zeLast = true) :
    exec (.zePut b) s = finishEmit (.zePut b) [b] s := by
  rw [exec, execZePut, zenc1_plain (Bool.eq_false_iff.mpr h)]

/-- Settles O32: the statement's condition is the encoder's own (`escNeeded_iff`), which fixes the bytes emitted;
the room for them decides the outcome. -/
theorem encoderPutsOneByte : Obligations.EncoderPutsOneByte := by
  refine ⟨fun s => ⟨rfl, exec_zeRst s⟩, fun b s => ?_⟩
  intro w inMap crRule escaped
  have hiff : escNeeded (escmap s) s.cfg.crctx b s.zstate.zeLast = true ↔ escaped := escNeeded_iff s b
  have hw : encode (.zePut b) = w := encode_zePut b
  rw [← hiff, ← hw]
  exact ⟨decode_encode_of_layout (Laws.EncodingLayout.zePut b) rfl,
    fun h hroom => (exec_zePut_escaped h).trans (finishEmit_fits _ _ s hroom),
    fun h hfull => (exec_zePut_escaped h).trans (finishEmit_full _ _ s hfull),
    fun h hroom => (exec_zePut_plain h).trans (finishEmit_fits _ _ s hroom),
    fun h hfull => (exec_zePut_plain h).trans (finishEmit_full _ _ s hfull)⟩

/-! ## ZD.RST, ZD.PUT and ZD.END (R178 to R180) -/

theorem exec_zdRst (s : State) :
    exec .zdRst s = .next (endedOk { s with zstate := { s.zstate with zdPend := false } }) :=
  finish_ok ..

/-- A ZD.PUT whose byte fails the decoder's step. -/
theorem exec_zdPut_error {s : State} {p : Bool} {b : Byte} {c : ResultCode} (hp : s.zstate.zdPend = p)
    (h : zdStep p b = .error c) : exec (.zdPut b) s = finish (.zdPut b) c s := by
  rw [exec, execZdPut, hp, h]

/-- A ZD.PUT whose byte the decoder only takes note of. -/
theorem exec_zdPut_none {s : State} {p p' : Bool} {b : Byte} (hp : s.zstate.zdPend = p)
    (h : zdStep p b = .ok (none, p')) :
    exec (.zdPut b) s = .next (endedOk { s with zstate := { s.zstate with zdPend := p' } }) := by
  rw [exec, execZdPut, hp, h]
  exact finish_ok ..

/-- A ZD.PUT whose byte makes the decoder append one. -/
theorem exec_zdPut_some {s : State} {p p' : Bool} {b out : Byte} (hp : s.zstate.zdPend = p)
    (h : zdStep p b = .ok (some out, p')) : exec (.zdPut b) s =
      if s.rxp.length = Config.rxpCap then finish (.zdPut b) .bufferFull s
      else finish (.zdPut b) .ok { s with rxp := s.rxp ++ [out], zstate := { s.zstate with zdPend := p' } } := by
  rw [exec, execZdPut, hp, h]

theorem exec_zdPut_full {s : State} {p p' : Bool} {b out : Byte} (hp : s.zstate.zdPend = p)
    (h : zdStep p b = .ok (some out, p')) (hfull : s.rxp.length = 1024) :
    exec (.zdPut b) s = .next (ended .bufferFull (encode (.zdPut b)) s) :=
  (exec_zdPut_some hp h).trans (finish_checked_fault (.zdPut b) (by decide) s _ hfull)

theorem exec_zdPut_room {s : State} {p p' : Bool} {b out : Byte} (hp : s.zstate.zdPend = p)
    (h : zdStep p b = .ok (some out, p')) (hroom : s.rxp.length ≠ 1024) : exec (.zdPut b) s =
      .next (endedOk { s with rxp := s.rxp ++ [out], zstate := { s.zstate with zdPend := p' } }) :=
  (exec_zdPut_some hp h).trans (finish_checked_ok (.zdPut b) .bufferFull s _ hroom)

theorem exec_zdEnd_pending {s : State} (h : s.zstate.zdPend = true) :
    exec .zdEnd s = .next (ended .invalidEscape (encode .zdEnd) s) :=
  finish_checked_fault .zdEnd (by decide) s s h

theorem exec_zdEnd_idle {s : State} (h : s.zstate.zdPend = false) : exec .zdEnd s = .next (endedOk s) :=
  finish_checked_ok .zdEnd .invalidEscape s s (Bool.eq_false_iff.mp h)

theorem setZdPend_self {s : State} {p : Bool} (h : s.zstate.zdPend = p) :
    { s.zstate with zdPend := p } = s.zstate := by
  rw [← h]

/-- Settles O34: each case of a ZD.PUT is a case of the decoder's step (`zdStep`), whose answer fixes what the
command does. -/
theorem streamingDecoderCommands : Obligations.StreamingDecoderCommands := by
  refine ⟨fun s => ⟨rfl, exec_zdRst s⟩, fun b s => ?_, fun s => ⟨rfl, exec_zdEnd_pending, exec_zdEnd_idle⟩⟩
  rw [← encode_zdPut]
  refine ⟨decode_encode_of_layout (Laws.EncodingLayout.zdPut b) rfl, fun hidle => ?idle, fun hpending => ?pending⟩
  case idle =>
    refine ⟨?_, fun hb => exec_zdPut_full hidle (zdStep_plain hb), fun hb hroom => ?_⟩
    · rintro rfl
      exact exec_zdPut_none hidle zdStep_introducer
    · rw [exec_zdPut_room hidle (zdStep_plain hb) hroom, setZdPend_self hidle]
  case pending =>
    have hescape (hb : b &&& 0x60 = 0x40) := zdStep_pending ((validEscape_iff b).mpr hb)
    refine ⟨fun hb => ?_, fun hb => exec_zdPut_full hpending (hescape hb),
      fun hb => exec_zdPut_room hpending (hescape hb)⟩
    have hbad : validEscape b = false := beq_false_of_ne hb
    rw [exec_zdPut_error hpending (zdStep_pending_bad hbad), finish_other _ _ _ (by decide)]

end Sys2Proof.Machine
end

section
/-! The frame serializer (spec/43_serializer.md R192 to R210). A serializer command that passes its input checks is
one emission, whose outcome the room in `OBUF` decides; what is left is that the wire image is the layout's, and
that its check bytes write the check value in their byte order. -/

namespace Sys2Proof.Machine

/-! ## Check values on the wire (R88) -/

theorem bigEndian_crc16Bytes (c : Half) : bigEndian (crc16Bytes c) = c.toNat := by
  have hhi : (hiByte c).toNat = c.toNat / 256 := by
    rw [hiByte, BitVec.extractLsb'_toNat, Nat.shiftRight_eq_div_pow]
    omega
  have hlo : (loByte c).toNat = c.toNat % 256 := BitVec.extractLsb'_toNat ..
  simp only [crc16Bytes, bigEndian, hhi, hlo, List.length_cons, List.length_nil]
  omega

theorem littleEndian_wordBytes (v : Word) : littleEndian (wordBytes v) = v.toNat := by
  simp only [wordBytes, littleEndian, BitVec.extractLsb'_toNat, Nat.shiftRight_eq_div_pow]
  omega

theorem ck8_eq_ofNat (d : List Byte) (s : Byte) : ck8 d s = BitVec.ofNat 8 (s.toNat + byteSum d) := by
  induction d generalizing s with
  | nil => simp [ck8, byteSum]
  | cons b d ih =>
    rw [ck8_cons, ih]
    apply BitVec.eq_of_toNat_eq
    simp only [byteSum, List.map_cons, List.sum_cons, BitVec.toNat_ofNat, BitVec.toNat_add]
    omega

/-! ## The outcome of an emission (R144, R191) -/

theorem finishEmit_by_room (i : Instr) (w : List Byte) (s : State) :
    (s.obuf.length + w.length ≤ 4096 → finishEmit i w s = .next (endedOk (emitted w s)))
    ∧ (4096 < s.obuf.length + w.length → finishEmit i w s = .next (ended .bufferFull (encode i) s)) :=
  ⟨finishEmit_fits i w s, finishEmit_full i w s⟩

/-! ## Xmodem block (R192 to R194) -/

theorem blockSize_eq_variantShape (v : XVariant) : blockSize v = (variantShape v).2.1 := by
  cases v <;> rfl

theorem blockMarker_eq_variantShape (v : XVariant) : blockMarker v = (variantShape v).1 := by
  cases v <;> rfl

theorem blockTrailer_length (v : XVariant) (p : List Byte) :
    (blockTrailer v p).length = (variantShape v).2.2 := by
  cases v <;> rfl

theorem bigEndian_blockTrailer (v : XVariant) (p : List Byte) :
    bigEndian (blockTrailer v p) = variantCheck v p := by
  cases v with
  | checksum => simp [blockTrailer, variantCheck, bigEndian, ck8_eq_ofNat]
  | crc | oneK => exact bigEndian_crc16Bytes _

theorem exec_fsXblk_overrun {s : State} (h : (variantShape s.cfg.xvar).2.1 < s.txp.length) :
    exec .fsXblk s = .next (ended .overrun (encode .fsXblk) s) := by
  rw [← blockSize_eq_variantShape] at h
  rw [exec, execFsXblk, if_pos h, finish_other _ _ _ (by decide)]

theorem exec_fsXblk_emits {s : State} (h : s.txp.length ≤ (variantShape s.cfg.xvar).2.1) : exec .fsXblk s =
    finishEmit .fsXblk
      (blockImage s.cfg.xvar s.txDesc.blk (padTo (variantShape s.cfg.xvar).2.1 0x1A s.txp)) s := by
  rw [← blockSize_eq_variantShape] at h ⊢
  exact if_neg (Nat.not_lt.mpr h)

/-- Settles O37: the block is the variant's (`variantShape`), and its trailer writes the variant's check value
(`bigEndian_blockTrailer`). -/
theorem xmodemBlockSerialized : Obligations.XmodemBlockSerialized := by
  intro s v n p
  refine ⟨rfl, exec_fsXblk_overrun, fun hfits =>
    ⟨blockTrailer v p, blockTrailer_length v p, bigEndian_blockTrailer v p, ?_⟩⟩
  rw [exec_fsXblk_emits hfits, ← blockMarker_eq_variantShape]
  exact finishEmit_by_room ..

/-! ## Ymodem block 0 (R195 to R200) -/

theorem exec_fsYb0_badName {s : State} (h : s.txp = [] ∨ 0x00 ∈ s.txp) :
    exec .fsYb0 s = .next (ended .illegalCommand (encode .fsYb0) s) := by
  have hbad : s.txp.length = 0 ∨ s.txp.contains 0x00 := h.imp List.length_eq_zero_iff.mpr List.contains_iff_mem.mpr
  rw [exec, execFsYb0, if_pos hbad, finish_other _ _ _ (by decide)]

theorem name_check_passed {name : List Byte} (hne : name ≠ []) (hzero : 0x00 ∉ name) :
    ¬ (name.length = 0 ∨ name.contains 0x00) := by
  rw [List.length_eq_zero_iff, List.contains_iff_mem]
  exact not_or.mpr ⟨hne, hzero⟩

theorem exec_fsYb0_overrun {s : State} (hne : s.txp ≠ []) (hzero : 0x00 ∉ s.txp)
    (hlong : 128 < (yb0Text s.txp s.txYsize s.txYmtime s.txYmode).length) :
    exec .fsYb0 s = .next (ended .overrun (encode .fsYb0) s) := by
  rw [exec, execFsYb0, if_neg (name_check_passed hne hzero)]
  exact (if_pos hlong).trans (finish_other _ _ _ (by decide))

theorem exec_fsYb0_emits {s : State} (hne : s.txp ≠ []) (hzero : 0x00 ∉ s.txp)
    (hfits : (yb0Text s.txp s.txYsize s.txYmtime s.txYmode).length ≤ 128) : exec .fsYb0 s =
    finishEmit .fsYb0
      (blockImage .crc 0x00 (padTo 128 0x00 (yb0Text s.txp s.txYsize s.txYmtime s.txYmode))) s := by
  rw [exec, execFsYb0, if_neg (name_check_passed hne hzero)]
  exact if_neg (Nat.not_lt.mpr hfits)

theorem crcBlock_length {p : List Byte} (number : Byte) (h : p.length = 128) :
    (blockImage .crc number p).length = 133 := by
  simp [blockImage, blockTrailer, crc16Bytes, h]

/-- The block that ends a batch. -/
theorem exec_fsYeob (s : State) : exec .fsYeob s =
    finishEmit .fsYeob ([0x01, 0x00, 0xFF] ++ List.replicate 128 0x00 ++ [0x00, 0x00]) s := rfl

theorem endOfBatch_length :
    ([0x01, 0x00, 0xFF] ++ List.replicate 128 0x00 ++ [0x00, 0x00] : List Byte).length = 133 := by
  rw [List.length_append, List.length_append, List.length_replicate]
  rfl

theorem crc16_zeros (n : Nat) : crc16 (List.replicate n 0x00) 0x0000 = 0x0000 := by
  have hstep : crc16Step 0x0000 0x00 = 0x0000 := by decide
  induction n with
  | zero => rfl
  | succ n ih => rw [List.replicate_succ, crc16_cons, hstep, ih]

/-- Settles O38: a block of variant `Crc` over 128 bytes has 133 (`crcBlock_length`), its trailer writes the CRC-16
of the payload (`bigEndian_crc16Bytes`), and a zero byte leaves the register 0 (`crc16_zeros`). -/
theorem ymodemBlock0Serialized : Obligations.YmodemBlock0Serialized := by
  refine ⟨fun s => ?metadata, fun s => ⟨rfl, ?endOfBatch⟩, crc16_zeros 128⟩
  case metadata =>
    intro text p
    refine ⟨rfl, exec_fsYb0_badName, exec_fsYb0_overrun, fun hne hzero hfits =>
      ⟨crc16Bytes (crc16 p 0x0000), rfl, bigEndian_crc16Bytes _, ?_⟩⟩
    rw [exec_fsYb0_emits hne hzero hfits, ← crcBlock_length 0x00 (padTo_length 0x00 hfits)]
    exact finishEmit_by_room ..
  case endOfBatch =>
    rw [exec_fsYeob, ← endOfBatch_length]
    exact finishEmit_by_room ..

/-! ## Zmodem frame header (R201 to R209) -/

/-- The bytes of a header in the shifted form. -/
theorem headerBody_eq_shifts (t : Byte) (h : Word) : headerBody t h =
    [t, h.setWidth 8, (h >>> 8).setWidth 8, (h >>> 16).setWidth 8, (h >>> 24).setWidth 8] := by
  rfl

theorem hexDigit_eq_getD : ∀ n : BitVec 4, hexDigit n = hexDigits.getD n.toNat 0 := by
  decide

theorem flatMap_hex2 (d : List Byte) : d.flatMap hex2 = hexWire d := by
  induction d with
  | nil => rfl
  | cons b d ih =>
    have hhigh : (b.extractLsb' 4 4).toNat = b.toNat / 16 := by
      rw [BitVec.extractLsb'_toNat, Nat.shiftRight_eq_div_pow]
      omega
    have hlow : (b.extractLsb' 0 4).toNat = b.toNat % 16 := BitVec.extractLsb'_toNat ..
    rw [List.flatMap_cons, ih, hex2, hexDigit_eq_getD, hexDigit_eq_getD, hhigh, hlow]
    rfl

theorem exec_fsZhdr_invalidType {s : State} (h : 19 < s.txDesc.ztype.toNat) :
    exec .fsZhdr s = .next (ended .invalidFrameType (encode .fsZhdr) s) := by
  have hbad : s.txDesc.ztype.toNat > Config.maxFrameType := h
  rw [exec, execFsZhdr, if_pos hbad, finish_other _ _ _ (by decide)]

theorem exec_fsZhdr_emits {s : State} (h : s.txDesc.ztype.toNat ≤ 19) : exec .fsZhdr s =
    finishEmit .fsZhdr (headerImage s s.txDesc.zenc (s.txDesc.ztype.setWidth 8) s.txZhdr) s :=
  if_neg (Nat.not_lt.mpr h)

/-- Settles O39: in each encoding the header's image is the layout over the body (`headerBody_eq_shifts`), a hex body by
its digits (`flatMap_hex2`), with the check bytes in the encoding's byte order. -/
theorem zmodemHeaderSerialized : Obligations.ZmodemHeaderSerialized := by
  intro s t h body
  refine ⟨rfl, exec_fsZhdr_invalidType, fun htype => ⟨crc16Bytes (crc16 body 0x0000), wordBytes (crc32 body),
    rfl, bigEndian_crc16Bytes _, rfl, littleEndian_wordBytes _, ?_⟩⟩
  intro w
  have hbody : headerBody t h = body := headerBody_eq_shifts t h
  have himage : headerImage s s.txDesc.zenc t h = w := by
    subst w
    cases s.txDesc.zenc with
    | hex =>
      rw [headerImage, zhex, hbody, flatMap_hex2]
      rfl
    | bin16 =>
      rw [headerImage, zbin16, hbody]
      rfl
    | bin32 =>
      rw [headerImage, zbin32, hbody]
      rfl
  rw [exec_fsZhdr_emits htype, himage]
  exact finishEmit_by_room ..

/-! ## Zmodem data subpacket (R207, R208, R210) -/

theorem exec_fsZdat (s : State) : exec .fsZdat s =
    finishEmit .fsZdat (zsub s s.txp (markerByte s.txDesc.zend) s.zstate.zeLast) s := rfl

theorem subpacketCrc_narrow (d : List Byte) (m : Byte) :
    subpacketCrc false d m = crc16Bytes (crc16 (d ++ [m]) 0x0000) := rfl

theorem subpacketCrc_wide (d : List Byte) (m : Byte) :
    subpacketCrc true d m = wordBytes (crc32 (d ++ [m])) := rfl

/-- Settles O40: the subpacket's image is the layout with `subpacketCrc` as its check bytes, in either width. -/
theorem zmodemDataSerialized : Obligations.ZmodemDataSerialized := by
  intro s m
  refine ⟨rfl, subpacketCrc s.cfg.zcrcw s.txp m, fun hnarrow => ?narrow, fun hwide => ?wide,
    finishEmit_by_room .fsZdat _ s⟩
  case narrow =>
    rw [hnarrow, subpacketCrc_narrow]
    exact ⟨rfl, bigEndian_crc16Bytes _⟩
  case wide =>
    rw [hwide, subpacketCrc_wide]
    exact ⟨rfl, littleEndian_wordBytes _⟩

end Sys2Proof.Machine
end

section
/-! The parser of Xmodem-shaped blocks (spec/44_parser.md R221 to R224). A scan is said case by case; on a block that
is there (`scanBlock_present`) the complement decides it, and the two check values it answers are equal exactly when
the trailer writes the variant's check of the payload (`checkWords_eq_iff`). -/

namespace Sys2Proof.Machine

/-! ## Check values as numbers (R41, R88, R192) -/

theorem trailerLength_eq_variantShape (v : XVariant) : trailerLength v = (variantShape v).2.2 := by
  cases v <;> rfl

theorem blockTrailer_length_eq_trailerLength (v : XVariant) (p : List Byte) :
    (blockTrailer v p).length = trailerLength v :=
  (blockTrailer_length v p).trans (trailerLength_eq_variantShape v).symm

theorem blockLength_eq_variantShape (v : XVariant) :
    blockLength v = 3 + (variantShape v).2.1 + (variantShape v).2.2 := by
  cases v <;> rfl

theorem mismatchCode_eq_variantMismatch (v : XVariant) : mismatchCode v = variantMismatch v := by
  cases v <;> rfl

theorem halfOf_toNat (hi lo : Byte) : (halfOf hi lo).toNat = hi.toNat * 256 + lo.toNat := by
  rw [halfOf, BitVec.toNat_append, ← Nat.shiftLeft_add_eq_or_of_lt lo.isLt, Nat.shiftLeft_eq]

theorem blockCheck_eq_ofNat (v : XVariant) (p : List Byte) : blockCheck v p = BitVec.ofNat 32 (variantCheck v p) := by
  cases v with
  | checksum => rw [blockCheck, ← BitVec.ofNat_toNat, ck8_eq_ofNat]; simp [variantCheck]
  | crc | oneK => exact (BitVec.ofNat_toNat ..).symm

theorem trailerCheck_append {v : XVariant} {w tr : List Byte} {n : Nat} (rest : List Byte) (hw : w.length = n)
    (htr : tr.length = trailerLength v) : trailerCheck v (w ++ (tr ++ rest)) n = BitVec.ofNat 32 (bigEndian tr) := by
  subst hw
  cases v with
  | checksum =>
    obtain ⟨b, rfl⟩ := List.length_eq_one_iff.mp htr
    simp [trailerCheck, byteAt, bigEndian]
  | crc | oneK =>
    obtain ⟨hi, lo, rfl⟩ := List.length_eq_two.mp htr
    rw [trailerCheck, ← BitVec.ofNat_toNat, halfOf_toNat]
    simp [byteAt, bigEndian]

theorem variantCheck_lt (v : XVariant) (p : List Byte) : variantCheck v p < 2 ^ 32 := by
  cases v with
  | checksum => exact (Nat.mod_lt _ (by decide)).trans (by decide)
  | crc | oneK => exact (crc16 p 0x0000).isLt.trans (by decide)

theorem bigEndian_lt (d : List Byte) : bigEndian d < 256 ^ d.length := by
  induction d with
  | nil => exact Nat.one_pos
  | cons b d ih =>
    calc b.toNat * 256 ^ d.length + bigEndian d < b.toNat * 256 ^ d.length + 256 ^ d.length := by omega
      _ = (b.toNat + 1) * 256 ^ d.length := by ring
      _ ≤ 256 * 256 ^ d.length := Nat.mul_le_mul_right _ b.isLt
      _ = 256 ^ (b :: d).length := by rw [List.length_cons, Nat.pow_succ']

theorem bigEndian_trailer_lt {v : XVariant} {tr : List Byte} (h : tr.length = trailerLength v) :
    bigEndian tr < 2 ^ 32 := by
  have hlt := bigEndian_lt tr
  rw [h] at hlt
  cases v <;> exact hlt.trans (by decide)

/-- A check value and a trailer fit a register, so they are equal as register words exactly as numbers. -/
theorem checkWords_eq_iff {v : XVariant} (p : List Byte) {tr : List Byte} (h : tr.length = trailerLength v) :
    BitVec.ofNat 32 (variantCheck v p) = BitVec.ofNat 32 (bigEndian tr) ↔ variantCheck v p = bigEndian tr := by
  rw [← BitVec.toNat_inj, BitVec.toNat_ofNat, BitVec.toNat_ofNat, Nat.mod_eq_of_lt (variantCheck_lt v p),
    Nat.mod_eq_of_lt (bigEndian_trailer_lt h)]

/-! ## What a scan answers, case by case (R221, R222) -/

theorem scanBlock_nil (v : XVariant) : scanBlock v [] = .error .incomplete := rfl

theorem scanBlock_wrongMarker {v : XVariant} {b : Byte} (rest : List Byte) (h : b ≠ blockMarker v) :
    scanBlock v (b :: rest) = .error .invalidBlockHeader :=
  if_pos h

theorem scanBlock_short {v : XVariant} {rest : List Byte}
    (h : (blockMarker v :: rest).length < blockLength v) :
    scanBlock v (blockMarker v :: rest) = .error .incomplete := by
  rw [scanBlock, if_neg (by simp), if_neg (by simp [byteAt]), if_pos h]

/-- What the scan of a whole block with a right complement holds. -/
def wholeBlock (v : XVariant) (num : Byte) (p tr rest : List Byte) : ScannedBlock :=
  { number := num, payload := p, computed := BitVec.ofNat 32 (variantCheck v p)
    received := BitVec.ofNat 32 (bigEndian tr), rest }

theorem scanBlock_present {v : XVariant} (num comp : Byte) {p tr : List Byte} (rest : List Byte)
    (hp : p.length = blockSize v) (htr : tr.length = trailerLength v) :
    scanBlock v ([blockMarker v, num, comp] ++ p ++ tr ++ rest) =
      if comp = 255 - num then .ok (wholeBlock v num p tr rest) else .error .complementMismatch := by
  have hlength : ([blockMarker v, num, comp] ++ p ++ tr).length = blockLength v := by
    simp only [List.length_append, List.length_cons, List.length_nil, hp, htr, blockLength]
  have hpresent : ¬ ([blockMarker v, num, comp] ++ p ++ tr ++ rest).length < blockLength v := by
    rw [List.length_append, hlength]
    omega
  have hpayload : (([blockMarker v, num, comp] ++ p ++ tr ++ rest).drop 3).take (blockSize v) = p := by
    rw [List.append_assoc, List.append_assoc]
    exact List.take_left' hp
  have hreceived : trailerCheck v ([blockMarker v, num, comp] ++ p ++ tr ++ rest) (3 + blockSize v) =
      BitVec.ofNat 32 (bigEndian tr) := by
    rw [List.append_assoc]
    exact trailerCheck_append rest (by rw [List.length_append, hp]; rfl) htr
  rw [scanBlock, if_neg (by simp), if_neg (by simp [byteAt]), if_neg hpresent, hpayload, hreceived,
    List.drop_left' hlength, wholeBlock, ← blockCheck_eq_ofNat]
  exact ite_not ..

/-! ## FP.XBLK (R222) -/

theorem scanBlock_error_ne_ok {v : XVariant} {w : List Byte} {c : ResultCode} (h : scanBlock v w = .error c) :
    c ≠ .ok := by
  rcases scanBlock_error h with rfl | rfl | rfl <;> decide

theorem exec_fpXblk_scanFault {s : State} {c : ResultCode} (h : scanBlock s.cfg.xvar s.ibuf = .error c) :
    exec .fpXblk s = .next (ended c (encode .fpXblk) s) := by
  rw [exec, execFpXblk, h]
  exact finish_other _ _ _ (scanBlock_error_ne_ok h)

theorem variantMismatch_ne_ok (v : XVariant) : variantMismatch v ≠ .ok := by
  cases v <;> decide

theorem exec_fpXblk_mismatch {s : State} {u : ScannedBlock} (h : scanBlock s.cfg.xvar s.ibuf = .ok u)
    (hne : u.computed ≠ u.received) : exec .fpXblk s =
      .next (ended (variantMismatch s.cfg.xvar) (encode .fpXblk) (setCheckValues u.computed u.received s)) := by
  rw [exec, execFpXblk, h, ← finish_other _ _ _ (variantMismatch_ne_ok _), ← mismatchCode_eq_variantMismatch]
  exact if_pos hne

theorem exec_fpXblk_ok {s : State} {u : ScannedBlock} (h : scanBlock s.cfg.xvar s.ibuf = .ok u)
    (heq : u.computed = u.received) : exec .fpXblk s = .next (endedOk
      { setCheckValues u.computed u.received s with
        rxDesc := { s.rxDesc with blk := u.number }, rxp := u.payload, ibuf := u.rest }) := by
  rw [exec, execFpXblk, h, ← finish_ok .fpXblk]
  exact if_neg (not_not.mpr heq)

/-- Settles O44: each outcome of the scan is its case of `scanBlock`, and the comparison of the two registers is the
comparison of the numbers (`checkWords_eq_iff`). -/
theorem xmodemBlockParsed : Obligations.XmodemBlockParsed := by
  intro s v m n tl
  have hm : m = blockMarker v := (blockMarker_eq_variantShape v).symm
  have hlength : 3 + n + tl = blockLength v := (blockLength_eq_variantShape v).symm
  refine ⟨rfl, fun hempty => exec_fpXblk_scanFault ?empty, fun b rest hibuf hb => exec_fpXblk_scanFault ?header,
    fun rest hibuf hshort => exec_fpXblk_scanFault ?short, fun num comp p tr rest hibuf hp htr => ?present⟩
  case empty => rw [hempty, scanBlock_nil]
  case header => rw [hibuf, scanBlock_wrongMarker rest (hm ▸ hb)]
  case short =>
    rw [hibuf, hm, hlength] at hshort
    rw [hibuf, hm]
    exact scanBlock_short hshort
  case present =>
    replace hp : p.length = blockSize v := hp.trans (blockSize_eq_variantShape v).symm
    replace htr : tr.length = trailerLength v := htr.trans (trailerLength_eq_variantShape v).symm
    have hscan := scanBlock_present num comp rest hp htr
    rw [← hm, ← hibuf] at hscan
    refine ⟨fun hcomp => exec_fpXblk_scanFault (hscan.trans (if_neg hcomp)), fun hcomp => ?_⟩
    replace hscan := hscan.trans (if_pos hcomp)
    exact ⟨fun hne => exec_fpXblk_mismatch hscan (mt (checkWords_eq_iff p htr).mp hne),
      fun heq => exec_fpXblk_ok hscan ((checkWords_eq_iff p htr).mpr heq)⟩

/-! ## FP.YB0 (R224) -/

theorem exec_fpYb0_scanFault {s : State} {c : ResultCode} (h : scanBlock .crc s.ibuf = .error c) :
    exec .fpYb0 s = .next (ended c (encode .fpYb0) s) := by
  rw [exec, execFpYb0, h]
  exact finish_other _ _ _ (scanBlock_error_ne_ok h)

theorem exec_fpYb0_mismatch {s : State} {u : ScannedBlock} (h : scanBlock .crc s.ibuf = .ok u)
    (hne : u.computed ≠ u.received) : exec .fpYb0 s =
      .next (ended .crcMismatch (encode .fpYb0) (setCheckValues u.computed u.received s)) := by
  rw [exec, execFpYb0, h]
  exact (if_pos hne).trans (finish_other _ _ _ (by decide))

theorem exec_fpYb0_sound {s : State} {u : ScannedBlock} (h : scanBlock .crc s.ibuf = .ok u)
    (heq : u.computed = u.received) : exec .fpYb0 s =
      .next (if u.number = 0
        then endedOk { setYb0 (yb0Fields u.payload) (setCheckValues u.computed u.received s) with
                       rxp := u.payload, ibuf := u.rest }
        else ended .invalidBlockHeader (encode .fpYb0) (setCheckValues u.computed u.received s)) := by
  rw [exec, execFpYb0, h, apply_ite Host.Outcome.next, ← finish_ok .fpYb0,
    ← finish_other _ _ _ (by decide), ← ite_not]
  exact if_neg (not_not.mpr heq)

theorem yb0Overflow_eq_decide (f : Yb0Fields) : yb0Overflow f = decide (∃ x ∈ f.numbers, 2 ^ 32 ≤ x) := by
  rw [yb0Overflow, Bool.eq_iff_iff, List.any_eq_true]
  simp only [decide_eq_true_iff]

/-- Settles O45: the scan's cases for variant `Crc`, then the number of a block whose check values are equal
(`exec_fpYb0_sound`). -/
theorem ymodemBlock0Parsed : Obligations.YmodemBlock0Parsed := by
  intro s
  refine ⟨rfl, fun hempty => exec_fpYb0_scanFault ?empty, fun b rest hibuf hb => exec_fpYb0_scanFault ?header,
    fun rest hibuf hshort => exec_fpYb0_scanFault ?short, fun num comp hi lo p rest hibuf hp => ?present⟩
  case empty => rw [hempty, scanBlock_nil]
  case header => rw [hibuf, scanBlock_wrongMarker rest hb]
  case short =>
    rw [hibuf] at hshort ⊢
    exact scanBlock_short hshort
  case present =>
    have hscan := scanBlock_present (v := .crc) num comp rest hp (tr := [hi, lo]) rfl
    rw [show blockMarker .crc = 0x01 from rfl, ← hibuf] at hscan
    refine ⟨fun hcomp => exec_fpYb0_scanFault (hscan.trans (if_neg hcomp)), fun hcomp => ?_⟩
    replace hscan := hscan.trans (if_pos hcomp)
    have hcrc : (crc16 p 0x0000).setWidth 32 = BitVec.ofNat 32 (variantCheck .crc p) := (BitVec.ofNat_toNat ..).symm
    have hiff := checkWords_eq_iff (v := .crc) p (tr := [hi, lo]) rfl
    rw [hcrc]
    refine ⟨fun hne => exec_fpYb0_mismatch hscan (mt hiff.mp hne), fun heq => ?_⟩
    have hsound := exec_fpYb0_sound hscan (hiff.mpr heq)
    refine ⟨fun hnum => hsound.trans (congrArg _ (if_neg hnum)), fun hnum => ?_⟩
    rw [← yb0Overflow_eq_decide]
    exact hsound.trans (congrArg _ (if_pos hnum))

end Sys2Proof.Machine
end

section
/-! What a block 0's payload says (spec/44_parser.md R225 to R227): a longest run of digits is what `digitRun` takes,
its number is what the digits write, and the reading goes on exactly while a space and an octal digit follow. -/

namespace Sys2Proof.Machine

/-! ## Runs of digits (R227) -/

theorem isDigit_iff (base : Nat) (b : Byte) : isDigit base b = true ↔ Digit base b := by
  simp [isDigit, Digit]

theorem digitRun_eq_nil {base : Nat} {p : List Byte} (h : ∀ b ∈ p.head?, ¬ Digit base b) : digitRun base p = [] := by
  cases p with
  | nil => rfl
  | cons b p => exact List.takeWhile_cons_of_neg (mt (isDigit_iff base b).mp (h b rfl))

theorem digitRun_of_wholeRun {base : Nat} {run tail : List Byte} (h : WholeRun base run tail) :
    digitRun base (run ++ tail) = run := by
  obtain ⟨-, hdigits, hstop⟩ := h
  rw [digitRun, List.takeWhile_append_of_pos fun b hb => (isDigit_iff base b).mpr (hdigits b hb)]
  exact (congrArg (run ++ ·) (digitRun_eq_nil hstop)).trans (List.append_nil run)

/-- A run's value behind a value already read: the value moves up by the run's length. -/
theorem foldl_digits (base : Nat) (run : List Byte) (v : Nat) :
    run.foldl (fun v b => v * base + (b.toNat - 0x30)) v = v * base ^ run.length + textNumber base run := by
  induction run generalizing v with
  | nil => simp [textNumber]
  | cons b run ih =>
    rw [List.foldl_cons, ih, textNumber, List.length_cons]
    ring

theorem runNumber_eq_textNumber (base : Nat) (run : List Byte) : runNumber base run = textNumber base run := by
  rw [runNumber, foldl_digits, Nat.zero_mul, Nat.zero_add]

/-! ## The numbers behind the name (R227) -/

theorem octalNumbers_stop {tail : List Byte} (h : ¬ OctalFollows tail) (k : Nat) : octalNumbers k tail = [] := by
  cases k with
  | zero => rfl
  | succ k =>
    cases tail with
    | nil => rfl
    | cons b p =>
      rw [octalNumbers]
      split
      · rfl
      · next hb =>
        have hrun : digitRun 8 p = [] :=
          digitRun_eq_nil fun d hd hdigit => h ⟨congrArg some (not_not.mp hb), d, hd, hdigit⟩
        exact if_pos hrun

theorem octalNumbers_run {run tail : List Byte} (h : WholeRun 8 run tail) (k : Nat) :
    octalNumbers (k + 1) ([0x20] ++ run ++ tail) = textNumber 8 run :: octalNumbers k tail := by
  show octalNumbers (k + 1) (0x20 :: (run ++ tail)) = _
  rw [octalNumbers, if_neg (not_not.mpr rfl), digitRun_of_wholeRun h, ← runNumber_eq_textNumber]
  exact (if_neg h.1).trans (by rw [List.drop_left])

theorem octalNumbers_length_le (k : Nat) (p : List Byte) : (octalNumbers k p).length ≤ k := by
  induction k generalizing p with
  | zero => simp [octalNumbers]
  | succ k ih =>
    cases p with
    | nil => simp [octalNumbers]
    | cons b p =>
      rw [octalNumbers]
      split
      · simp
      · dsimp only
        split
        · simp
        · exact Nat.succ_le_succ (ih _)

theorem yb0Numbers_none {tail : List Byte} (h : ∀ b ∈ tail.head?, ¬ Digit 10 b) : yb0Numbers tail = [] :=
  if_pos (digitRun_eq_nil h)

theorem yb0Numbers_run {run tail : List Byte} (h : WholeRun 10 run tail) :
    yb0Numbers (run ++ tail) = textNumber 10 run :: octalNumbers 2 tail := by
  rw [yb0Numbers, digitRun_of_wholeRun h, ← runNumber_eq_textNumber]
  exact (if_neg h.1).trans (by rw [List.drop_left])

theorem yb0Numbers_length_le (p : List Byte) : (yb0Numbers p).length ≤ 3 := by
  rw [yb0Numbers]
  split
  · simp
  · exact Nat.succ_le_succ (octalNumbers_length_le 2 _)

/-! ## The fields of a payload (R225, R226) -/

theorem yb0Fields_zeros (n : Nat) :
    yb0Fields (List.replicate n 0x00) = { eob := true, nlen := 0, numbers := [] } :=
  if_pos (by simp)

theorem yb0Fields_of_ne_zeros {p : List Byte} (h : p ≠ List.replicate p.length 0x00) : yb0Fields p =
    { eob := false, nlen := (p.takeWhile (· != 0x00)).length
      numbers := yb0Numbers (p.drop ((p.takeWhile (· != 0x00)).length + 1)) } := by
  refine if_neg fun hall => h (List.eq_replicate_iff.mpr ⟨rfl, fun b hb => ?_⟩)
  exact eq_of_beq (List.all_eq_true.mp hall b hb)

theorem takeWhile_nonzero {name : List Byte} (hzero : 0x00 ∉ name) (tail : List Byte) :
    (name ++ tail).takeWhile (· != 0x00) = name ++ tail.takeWhile (· != 0x00) :=
  List.takeWhile_append_of_pos fun _ hb => bne_iff_ne.mpr fun hb0 => hzero (hb0 ▸ hb)

theorem yb0Fields_noZero {p : List Byte} (hne : p ≠ []) (hzero : 0x00 ∉ p) :
    yb0Fields p = { eob := false, nlen := p.length, numbers := [] } := by
  have hname : p.takeWhile (· != 0x00) = p := by simpa using takeWhile_nonzero hzero []
  have hzeros : p ≠ List.replicate p.length 0x00 := by
    intro hp
    rw [hp] at hzero
    simp [hne] at hzero
  rw [yb0Fields_of_ne_zeros hzeros, hname, List.drop_of_length_le (by simp)]
  rfl

theorem yb0Fields_named {name tail : List Byte} (hzero : 0x00 ∉ name)
    (hne : name ++ [0x00] ++ tail ≠ List.replicate (name ++ [0x00] ++ tail).length 0x00) :
    yb0Fields (name ++ [0x00] ++ tail) = { eob := false, nlen := name.length, numbers := yb0Numbers tail } := by
  have hname : (name ++ [0x00] ++ tail).takeWhile (· != 0x00) = name := by
    rw [List.append_assoc, takeWhile_nonzero hzero]
    simp
  rw [yb0Fields_of_ne_zeros hne, hname, List.drop_left' (by simp)]

theorem yb0Fields_numbers_length_le (p : List Byte) : (yb0Fields p).numbers.length ≤ 3 := by
  rw [yb0Fields]
  split
  · simp
  · exact yb0Numbers_length_le _

/-- Settles O46: the shape of the payload picks the lemma for its fields, each whole run picks the next number, and
the registers are `setYb0`'s. -/
theorem ymodemMetadataRead : Obligations.YmodemMetadataRead := by
  intro p hp
  refine ⟨?zeros, ?noZero, ?named, fun s => ?registers⟩
  case zeros =>
    rintro rfl
    rw [yb0Fields_zeros]
    exact ⟨rfl, rfl, fun k => rfl⟩
  case noZero =>
    intro hzero
    rw [← hp]
    exact yb0Fields_noZero (by rintro rfl; contradiction) hzero
  case named =>
    rintro name tail hne rfl hzero
    rw [← hp] at hne
    rw [yb0Fields_named hzero hne]
    refine ⟨rfl, rfl, yb0Numbers_none, ?_⟩
    rintro size r1 rfl hsize
    rw [yb0Numbers_run hsize]
    refine ⟨fun hstop => by rw [octalNumbers_stop hstop], ?_⟩
    rintro mtime r2 rfl hmtime
    rw [octalNumbers_run hmtime]
    refine ⟨fun hstop => by rw [octalNumbers_stop hstop], ?_⟩
    rintro mode r3 rfl hmode
    rw [octalNumbers_run hmode, octalNumbers]
  case registers =>
    have hlength := yb0Fields_numbers_length_le p
    have hmode : 2 < (yb0Fields p).numbers.length ↔ (yb0Fields p).numbers.length = 3 := by omega
    exact ⟨decide_eq_true_iff, decide_eq_true_iff, decide_eq_true_iff.trans hmode,
      (Bool.eq_iff_iff.mp (yb0Overflow_eq_decide _)).trans decide_eq_true_iff,
      BitVec.toNat_ofNat .., BitVec.toNat_ofNat .., BitVec.toNat_ofNat ..⟩

end Sys2Proof.Machine
end

section
/-! One changed byte of a block (spec/44_parser.md R223). Each step of a check is injective in its register and in its
byte, so a changed payload byte changes the check value and a changed trailer byte the number the trailer writes. -/

namespace Sys2Proof.Machine

/-! ## A fold that tells one changed entry (R151, R153) -/

theorem foldl_injective {σ β : Type*} {f : σ → β → σ} (hstate : ∀ b, Function.Injective (f · b)) (d : List β) :
    Function.Injective (d.foldl f) := by
  induction d with
  | nil => exact fun _ _ h => h
  | cons b d ih => exact fun _ _ h => hstate b (ih h)

theorem foldl_set_ne {σ β : Type*} {f : σ → β → σ} (hstate : ∀ b, Function.Injective (f · b))
    (hentry : ∀ c, Function.Injective (f c)) {d : List β} {j : Nat} {x : β} (hj : j < d.length)
    (hx : d[j]? ≠ some x) (c : σ) : (d.set j x).foldl f c ≠ d.foldl f c := by
  induction d generalizing j c with
  | nil => contradiction
  | cons b d ih =>
    cases j with
    | zero => exact fun h => hx (congrArg some (hentry c (foldl_injective hstate d h)).symm)
    | succ j => exact ih (Nat.lt_of_succ_lt_succ hj) hx (f c b)

/-- The polynomial has bit 0, so a shifted register shows in bit 0 whether the polynomial entered. -/
theorem crc16Shift_injective : Function.Injective crc16Shift := by
  intro a b h
  have hbit (c : Half) : (crc16Shift c).getLsbD 0 = c.getLsbD 15 := by
    rw [crc16Shift_eq]
    cases c.getLsbD 15 <;> simp [Config.crc16Poly]
  have htop : a.getLsbD 15 = b.getLsbD 15 := by rw [← hbit, ← hbit, h]
  rw [crc16Shift_eq, crc16Shift_eq, htop, BitVec.xor_left_inj] at h
  ext i hi
  rcases Nat.lt_or_ge i 15 with hlow | hhigh
  · have hshifted := congrArg (BitVec.getLsbD · (i + 1)) h
    simpa [show i + 1 < 16 by omega] using hshifted
  · obtain rfl : i = 15 := by omega
    exact htop

theorem crc16Step_injective_register (b : Byte) : Function.Injective (crc16Step · b) := fun _ _ h =>
  (BitVec.xor_left_inj _).mp (crc16Shift_injective.iterate 8 h)

theorem crc16Step_injective_byte (c : Half) : Function.Injective (crc16Step c) := by
  intro a b h
  have hinput : a.setWidth 16 <<< 8 = b.setWidth 16 <<< 8 :=
    (BitVec.xor_right_inj _).mp (crc16Shift_injective.iterate 8 h)
  bv_omega

theorem ck8Step_injective_register (b : Byte) : Function.Injective (ck8Step · b) := add_left_injective b

theorem ck8Step_injective_byte (s : Byte) : Function.Injective (ck8Step s) := add_right_injective s

/-! ## One changed byte of a payload or of a trailer -/

theorem variantCheck_set_ne (v : XVariant) {p : List Byte} {j : Nat} {x : Byte} (hj : j < p.length)
    (hx : p[j]? ≠ some x) : variantCheck v (p.set j x) ≠ variantCheck v p := by
  have hck8 (d : List Byte) : variantCheck .checksum d = (ck8 d 0).toNat := by simp [ck8_eq_ofNat, variantCheck]
  cases v with
  | checksum =>
    rw [hck8, hck8, Ne, BitVec.toNat_inj]
    exact foldl_set_ne ck8Step_injective_register ck8Step_injective_byte hj hx 0
  | crc | oneK =>
    rw [variantCheck, variantCheck, Ne, BitVec.toNat_inj]
    exact foldl_set_ne crc16Step_injective_register crc16Step_injective_byte hj hx 0x0000

theorem bigEndian_set_ne {d : List Byte} {j : Nat} {x : Byte} (hj : j < d.length) (hx : d[j]? ≠ some x) :
    bigEndian (d.set j x) ≠ bigEndian d := by
  induction d generalizing j with
  | nil => contradiction
  | cons b d ih =>
    cases j with
    | zero =>
      intro h
      have hscaled : x.toNat * 256 ^ d.length = b.toNat * 256 ^ d.length := Nat.add_right_cancel h
      have hbyte := Nat.eq_of_mul_eq_mul_right (Nat.pow_pos (by decide)) hscaled
      exact hx (congrArg some (BitVec.eq_of_toNat_eq hbyte.symm))
    | succ j =>
      rw [List.set_cons_succ, bigEndian, bigEndian, List.length_set]
      exact fun h => ih (Nat.lt_of_succ_lt_succ hj) hx (Nat.add_left_cancel h)

/-! ## FS.XBLK's block with one byte changed (R223) -/

theorem exec_fsXblk_obuf {s t : State} (h : exec .fsXblk s = .next t) (hok : t.result = .ok) :
    s.txp.length ≤ (variantShape s.cfg.xvar).2.1 ∧ t.obuf = s.obuf ++
      blockImage s.cfg.xvar s.txDesc.blk (padTo (variantShape s.cfg.xvar).2.1 0x1A s.txp) := by
  rcases Nat.lt_or_ge (variantShape s.cfg.xvar).2.1 s.txp.length with hlong | hfits
  · rw [exec_fsXblk_overrun hlong] at h
    cases h
    contradiction
  · rw [exec_fsXblk_emits hfits] at h
    rcases finishEmit_cases h with ⟨-, rfl⟩ | ⟨-, rfl⟩
    · exact ⟨hfits, emitted_obuf ..⟩
    · contradiction

/-- A byte changed behind the complement leaves a whole block whose trailer no longer writes the check. -/
theorem body_set_mismatch (v : XVariant) {p : List Byte} {j : Nat} {x : Byte}
    (hj : j < (p ++ blockTrailer v p).length) (hx : (p ++ blockTrailer v p)[j]? ≠ some x) :
    ∃ p' tr', (p ++ blockTrailer v p).set j x = p' ++ tr' ∧ p'.length = p.length
      ∧ tr'.length = trailerLength v ∧ variantCheck v p' ≠ bigEndian tr' := by
  rcases Nat.lt_or_ge j p.length with hpayload | htrailer
  · rw [List.getElem?_append_left hpayload] at hx
    refine ⟨p.set j x, blockTrailer v p, List.set_append_left j x hpayload, List.length_set,
      blockTrailer_length_eq_trailerLength v p, ?_⟩
    rw [bigEndian_blockTrailer]
    exact variantCheck_set_ne v hpayload hx
  · rw [List.getElem?_append_right htrailer] at hx
    rw [List.length_append] at hj
    refine ⟨p, (blockTrailer v p).set (j - p.length) x, List.set_append_right j x htrailer, rfl,
      List.length_set.trans (blockTrailer_length_eq_trailerLength v p), ?_⟩
    rw [← bigEndian_blockTrailer]
    exact (bigEndian_set_ne (by omega) hx).symm

/-- The command ends with the code and takes nothing from `IBUF` and puts nothing into `RXP`. -/
def EndsKeepingBuffers (i : Instr) (r : State) (c : ResultCode) : Prop :=
  ∃ u, exec i r = .next u ∧ u.ibuf = r.ibuf ∧ u.rxp = r.rxp ∧ u.result = c

theorem fpXblk_keeps_wrongMarker {r : State} {b : Byte} {rest : List Byte} (hibuf : r.ibuf = b :: rest)
    (hb : b ≠ blockMarker r.cfg.xvar) : EndsKeepingBuffers .fpXblk r .invalidBlockHeader := by
  have hscan := scanBlock_wrongMarker rest hb
  rw [← hibuf] at hscan
  exact ⟨_, exec_fpXblk_scanFault hscan, rfl, rfl, rfl⟩

theorem fpXblk_keeps_wrongComplement {r : State} {num comp : Byte} {p tr : List Byte}
    (hp : p.length = blockSize r.cfg.xvar) (htr : tr.length = trailerLength r.cfg.xvar)
    (hibuf : r.ibuf = [blockMarker r.cfg.xvar, num, comp] ++ p ++ tr) (hcomp : comp ≠ 255 - num) :
    EndsKeepingBuffers .fpXblk r .complementMismatch := by
  have hscan := scanBlock_present num comp [] hp htr
  rw [List.append_nil, ← hibuf, if_neg hcomp] at hscan
  exact ⟨_, exec_fpXblk_scanFault hscan, rfl, rfl, rfl⟩

theorem fpXblk_keeps_wrongTrailer {r : State} {num : Byte} {p tr : List Byte}
    (hp : p.length = blockSize r.cfg.xvar) (htr : tr.length = trailerLength r.cfg.xvar)
    (hibuf : r.ibuf = [blockMarker r.cfg.xvar, num, 255 - num] ++ p ++ tr)
    (hne : variantCheck r.cfg.xvar p ≠ bigEndian tr) :
    EndsKeepingBuffers .fpXblk r (variantMismatch r.cfg.xvar) := by
  have hscan := scanBlock_present num (255 - num) [] hp htr
  rw [List.append_nil, ← hibuf, if_pos rfl] at hscan
  exact ⟨_, exec_fpXblk_mismatch hscan (mt (checkWords_eq_iff p htr).mp hne), rfl, rfl, rfl⟩

/-- The code of a block with the byte at one position changed (R223). -/
def corruptionCode (v : XVariant) (k : Nat) : ResultCode :=
  if k = 0 then .invalidBlockHeader else if k ≤ 2 then .complementMismatch else variantMismatch v

theorem corruptedBlock_ends {r : State} {v : XVariant} {num x : Byte} {p : List Byte} {k : Nat}
    (hv : r.cfg.xvar = v) (hp : p.length = blockSize v) (hk : k < (blockImage v num p).length)
    (hx : (blockImage v num p)[k]? ≠ some x) (hibuf : r.ibuf = (blockImage v num p).set k x) :
    EndsKeepingBuffers .fpXblk r (corruptionCode v k) := by
  subst hv
  have htr := blockTrailer_length_eq_trailerLength r.cfg.xvar p
  match k with
  | 0 => exact fpXblk_keeps_wrongMarker hibuf fun h => hx (congrArg some h.symm)
  | 1 => exact fpXblk_keeps_wrongComplement hp htr hibuf fun h => hx (congrArg some (sub_right_inj.mp h))
  | 2 => exact fpXblk_keeps_wrongComplement hp htr hibuf fun h => hx (congrArg some h.symm)
  | j + 3 =>
    obtain ⟨p', tr', hset, hp', htr', hne⟩ := body_set_mismatch r.cfg.xvar (Nat.lt_of_add_lt_add_right hk) hx
    have hblock : r.ibuf = [blockMarker r.cfg.xvar, num, 255 - num] ++ p' ++ tr' := by
      rw [hibuf, List.append_assoc, ← hset]
      rfl
    exact fpXblk_keeps_wrongTrailer (hp'.trans hp) htr' hblock hne

/-- Settles O56: the block on the wire is FS.XBLK's image, and its corruption is caught where it stands
(`corruptedBlock_ends`). -/
theorem singleByteCorruptionDetected : Obligations.SingleByteCorruptionDetected := by
  intro s t r k x hempty hexec hok hk hx hibuf hxvar
  obtain ⟨hfits, hobuf⟩ := exec_fsXblk_obuf hexec hok
  rw [hempty, List.nil_append] at hobuf
  rw [hobuf] at hk hx hibuf
  exact corruptedBlock_ends hxvar ((padTo_length 0x1A hfits).trans (blockSize_eq_variantShape _).symm) hk hx hibuf

end Sys2Proof.Machine
end

section
/-! The retry timeout commands (spec/45_retry_timeout.md R251 to R256). An exhausted budget refuses every command but
RT.RST; else RT.FAIL, and RT.POLL at a passed deadline, are one counted failure, whose outcome the new count decides. -/

namespace Sys2Proof.Machine

/-! ## The counted failure as a command's end (R256) -/

/-- The state after a counted failure, `e` saying whether it exhausted the budget (R256). -/
def afterFailure (e : Bool) (s : State) : State :=
  { s with rtStat := { cnt := s.rtStat.cnt + 1, armed := false, exh := e } }

theorem finishBump_below (i : Instr) (c : ResultCode) {s : State} (hexh : s.rtStat.exh = false)
    (hmax : (s.rtStat.cnt + 1).toNat < s.rtMax.toNat) : finishBump i c s = finish i c (afterFailure false s) := by
  rw [finishBump, bump_below hexh hmax]
  rfl

theorem finishBump_reaches (i : Instr) (c : ResultCode) {s : State}
    (hmax : s.rtMax.toNat ≤ (s.rtStat.cnt + 1).toNat) :
    finishBump i c s = .next (ended .maxRetriesExceeded (encode i) (afterFailure true s)) := by
  rw [finishBump, bump_reaches hmax]
  exact finish_other i .maxRetriesExceeded _ (by decide)

/-! ## While the budget is exhausted (R252 to R255) -/

/-- The refusal all four commands begin with. -/
theorem finish_exhausted {s : State} (hexh : s.rtStat.exh = true) (i : Instr) (r : Result) :
    (if s.rtStat.exh then finish i .maxRetriesExceeded s else r)
      = .next (ended .maxRetriesExceeded (encode i) s) := by
  rw [if_pos hexh, finish_other i _ s (by decide)]

theorem exec_rtArm_exhausted {s : State} (hexh : s.rtStat.exh = true) :
    exec .rtArm s = .next (ended .maxRetriesExceeded (encode .rtArm) s) := finish_exhausted hexh ..

theorem exec_rtOk_exhausted {s : State} (hexh : s.rtStat.exh = true) :
    exec .rtOk s = .next (ended .maxRetriesExceeded (encode .rtOk) s) := finish_exhausted hexh ..

theorem exec_rtFail_exhausted {s : State} (hexh : s.rtStat.exh = true) :
    exec .rtFail s = .next (ended .maxRetriesExceeded (encode .rtFail) s) := finish_exhausted hexh ..

theorem exec_rtPoll_exhausted {s : State} (hexh : s.rtStat.exh = true) :
    exec .rtPoll s = .next (ended .maxRetriesExceeded (encode .rtPoll) s) := finish_exhausted hexh ..

/-! ## RT.RST, RT.ARM and RT.OK (R251 to R253) -/

theorem exec_rtRst (s : State) : exec .rtRst s =
    .next (endedOk { s with rtStat := { cnt := 0, armed := false, exh := false }, rtDl := 0 }) :=
  finish_ok ..

/-- The deadline as a number: the sum of the time and the timeout, modulo 2^64 (R252). -/
theorem deadline_eq_ofNat (now : Time) (tmo : Word) :
    now + tmo.setWidth 64 = BitVec.ofNat 64 (now.toNat + tmo.toNat) := by
  rw [BitVec.ofNat_add, BitVec.ofNat_toNat, BitVec.ofNat_toNat, BitVec.setWidth_eq]

theorem exec_rtArm_remaining {s : State} (hexh : s.rtStat.exh = false) : exec .rtArm s =
    .next (endedOk { s with rtDl := BitVec.ofNat 64 (s.now.toNat + s.rtTmo.toNat)
                            rtStat := { s.rtStat with armed := true } }) := by
  rw [← deadline_eq_ofNat]
  exact finish_checked_ok .rtArm .maxRetriesExceeded s _ (Bool.eq_false_iff.mp hexh)

theorem exec_rtOk_remaining {s : State} (hexh : s.rtStat.exh = false) : exec .rtOk s =
    .next (endedOk { s with rtStat := { s.rtStat with cnt := 0, armed := false } }) :=
  finish_checked_ok .rtOk .maxRetriesExceeded s _ (Bool.eq_false_iff.mp hexh)

/-! ## RT.FAIL (R254) -/

theorem exec_rtFail_remaining {s : State} (hexh : s.rtStat.exh = false) :
    exec .rtFail s = finishBump .rtFail .ok s :=
  if_neg (Bool.eq_false_iff.mp hexh)

theorem exec_rtFail_below {s : State} (hexh : s.rtStat.exh = false)
    (hmax : (s.rtStat.cnt + 1).toNat < s.rtMax.toNat) :
    exec .rtFail s = .next (endedOk (afterFailure false s)) := by
  rw [exec_rtFail_remaining hexh, finishBump_below _ _ hexh hmax, finish_ok]

theorem exec_rtFail_reaches {s : State} (hexh : s.rtStat.exh = false)
    (hmax : s.rtMax.toNat ≤ (s.rtStat.cnt + 1).toNat) :
    exec .rtFail s = .next (ended .maxRetriesExceeded (encode .rtFail) (afterFailure true s)) := by
  rw [exec_rtFail_remaining hexh, finishBump_reaches _ _ hmax]

/-! ## RT.POLL (R255) -/

theorem exec_rtPoll_waiting {s : State} (hexh : s.rtStat.exh = false)
    (hwait : s.rtStat.armed = false ∨ s.now.toNat < s.rtDl.toNat) : exec .rtPoll s = .next (endedOk s) := by
  rw [exec, execRtPoll, if_neg (Bool.eq_false_iff.mp hexh)]
  rcases hwait with hidle | hearly
  · rw [hidle, if_pos (by decide), finish_ok]
  · rw [if_pos (BitVec.lt_def.mpr hearly), ite_self, finish_ok]

theorem exec_rtPoll_passed {s : State} (hexh : s.rtStat.exh = false) (harmed : s.rtStat.armed = true)
    (hpassed : s.rtDl.toNat ≤ s.now.toNat) : exec .rtPoll s = finishBump .rtPoll .timeout s := by
  have hlate : ¬ s.now < s.rtDl := mt BitVec.lt_def.mp (Nat.not_lt.mpr hpassed)
  rw [exec, execRtPoll, if_neg (Bool.eq_false_iff.mp hexh), harmed, if_neg (by decide), if_neg hlate]

theorem exec_rtPoll_below {s : State} (hexh : s.rtStat.exh = false) (harmed : s.rtStat.armed = true)
    (hpassed : s.rtDl.toNat ≤ s.now.toNat) (hmax : (s.rtStat.cnt + 1).toNat < s.rtMax.toNat) :
    exec .rtPoll s = .next (ended .timeout (encode .rtPoll) (afterFailure false s)) := by
  rw [exec_rtPoll_passed hexh harmed hpassed, finishBump_below _ _ hexh hmax, finish_other _ _ _ (by decide)]

theorem exec_rtPoll_reaches {s : State} (hexh : s.rtStat.exh = false) (harmed : s.rtStat.armed = true)
    (hpassed : s.rtDl.toNat ≤ s.now.toNat) (hmax : s.rtMax.toNat ≤ (s.rtStat.cnt + 1).toNat) :
    exec .rtPoll s = .next (ended .maxRetriesExceeded (encode .rtPoll) (afterFailure true s)) := by
  rw [exec_rtPoll_passed hexh harmed hpassed, finishBump_reaches _ _ hmax]

/-- Settles O57: each case of the statement is one equation of its command. -/
theorem retryCommands : Obligations.RetryCommands := by
  refine ⟨fun s => ⟨rfl, exec_rtRst s⟩,
    fun s => ⟨rfl, rfl, rfl, rfl, fun hexh => ?exhausted, fun hexh => ?remaining⟩⟩
  case exhausted =>
    exact ⟨exec_rtArm_exhausted hexh, exec_rtOk_exhausted hexh, exec_rtFail_exhausted hexh,
      exec_rtPoll_exhausted hexh⟩
  case remaining =>
    exact ⟨exec_rtArm_remaining hexh, exec_rtOk_remaining hexh, exec_rtFail_below hexh, exec_rtFail_reaches hexh,
      exec_rtPoll_waiting hexh, fun harmed hpassed =>
        ⟨exec_rtPoll_below hexh harmed hpassed, exec_rtPoll_reaches hexh harmed hpassed⟩⟩

end Sys2Proof.Machine
end

section
/-! The decoder's word is the encoder's (R112, R113): a word that matches its row is the row's opcode above the
operand field of the command the row makes of it. -/

namespace Sys2Proof.Machine

/-- Bits 23:0 of the word of the command that a form makes of a word (R111). -/
def formField (w : Word) : CommandForm → BitVec 24
  | .none _ => 0
  | .byte _ => byteField (w.setWidth 8)
  | .half _ => countField (w.toNat % 65536)

theorem encode_formCommand (w : Word) :
    ∀ r ∈ opcodeMap, encode (formCommand w r.form) = r.op ++ formField w r.form := by
  simp only [opcodeMap, opcodeMapSystem, opcodeMapChecksum, opcodeMapEscape, opcodeMapSerializer, opcodeMapParser,
    opcodeMapRetry, List.cons_append, List.nil_append, List.forall_mem_cons,
    List.not_mem_nil, false_implies, implies_true, and_true]
  and_intros
  all_goals rfl

/-- A word is put together again from the bits a format's mask keeps and the operand below them. -/
theorem masked_or_low (w : Word) (k : Nat) : w &&& BitVec.allOnes 32 <<< k ||| (w.setWidth k).setWidth 32 = w := by
  apply BitVec.eq_of_getLsbD_eq
  intro i _
  rw [BitVec.getLsbD_or, BitVec.getLsbD_and, BitVec.getLsbD_shiftLeft, BitVec.getLsbD_allOnes,
    BitVec.getLsbD_setWidth, BitVec.getLsbD_setWidth]
  grind

theorem row_eq_of_matches {w : Word} {r : OpcodeRow} (h : Matches w r) : r.op ++ formField w r.form = w := by
  obtain ⟨op, form⟩ := r
  cases form with
  | none i =>
    calc op ++ (0 : BitVec 24) = op.setWidth 32 <<< 24 ||| 0#32 := word_byte op 0
      _ = w &&& BitVec.allOnes 32 := BitVec.or_zero.trans h.symm
      _ = w := BitVec.and_allOnes
  | byte f =>
    rw [formField, word_byte, ← rowMatch, ← h]
    exact masked_or_low w 8
  | half f =>
    have hlow : BitVec.ofNat 32 (w.toNat % 65536) = (w.setWidth 16).setWidth 32 := by
      rw [← BitVec.ofNat_toNat, BitVec.toNat_setWidth]
    rw [formField, word_count _ _ (Nat.mod_lt _ (by decide)), ← rowMatch, ← h, hlow]
    exact masked_or_low w 16

theorem encode_of_decode {w : Word} {i : Instr} (h : decode w = .ok i) : encode i = w := by
  by_cases hrow : ∃ r ∈ opcodeMap, opField w = r.op
  · obtain ⟨r, hmem, hop⟩ := hrow
    rw [decode_of_row r hmem hop, decodeForm_eq hop] at h
    split at h
    · next hmatch =>
      cases h
      rw [encode_formCommand w r hmem, row_eq_of_matches hmatch]
    · cases h
  · push Not at hrow
    rw [decode_of_no_row hrow] at h
    cases h

end Sys2Proof.Machine
end

section
/-! The codes a scan can answer (spec/44_parser.md R228 to R233, and R177 for the escape decoder), one lemma per
scan as `scanBlock_error` is for the blocks, and that all of them are of class `fault` (R270). -/

namespace Sys2Proof.Machine

/-! ## Which codes -/

theorem zdec_error {w : List Byte} {c : ResultCode} (h : zdec w = .error c) : c = .invalidEscape := by
  rcases escapedAs_or_invalidEscape w with ⟨d, hd⟩ | herr
  · exact absurd (h.symm.trans (zdec_of_escapedAs hd)) nofun
  · exact Except.error.inj (h.symm.trans herr)

theorem hexBytes_error {n : Nat} {w : List Byte} {c : ResultCode} (h : hexBytes n w = .error c) :
    c = .incomplete ∨ c = .invalidFrameEncoding := by
  fun_induction hexBytes n w with
  | case1 => cases h
  | case2 | case4 => cases h; exact .inl rfl
  | case3 | case5 => cases h; exact .inr rfl
  | case6 _ _ _ _ _ _ _ _ _ hrest ih => cases h; exact ih hrest
  | case7 => cases h

theorem unescNext_error {w : List Byte} {c : ResultCode} (h : unescNext w = .error c) :
    c = .incomplete ∨ c = .invalidEscape := by
  revert h
  fun_cases unescNext w with
  | case1 | case3 => rintro ⟨⟩; exact .inl rfl
  | case2 | case4 => nofun
  | case5 => rintro ⟨⟩; exact .inr rfl

theorem unescBytes_error {n : Nat} {w : List Byte} {c : ResultCode} (h : unescBytes n w = .error c) :
    c = .incomplete ∨ c = .invalidEscape := by
  fun_induction unescBytes n w with
  | case1 | case4 => cases h
  | case2 _ _ _ hnext => cases h; exact unescNext_error hnext
  | case3 _ _ _ _ _ _ hrest ih => cases h; exact ih hrest

theorem scanHeaderBody_error {e : Byte} {w : List Byte} {c : ResultCode} (h : scanHeaderBody e w = .error c) :
    c ∈ [.incomplete, .invalidFrameEncoding, .invalidEscape] := by
  revert h
  fun_cases scanHeaderBody e w with
  | case1 _ _ hbytes =>
    rintro ⟨⟩
    rcases hexBytes_error hbytes with rfl | rfl <;> decide
  | case3 _ _ _ hbytes | case5 _ _ _ _ hbytes =>
    rintro ⟨⟩
    rcases unescBytes_error hbytes with rfl | rfl <;> decide
  | case2 | case4 | case6 => nofun
  | case7 => rintro ⟨⟩; decide

theorem scanAfterPads_error {w : List Byte} {c : ResultCode} (h : scanAfterPads w = .error c) :
    c ∈ [.incomplete, .invalidFrameEncoding, .invalidEscape] := by
  revert h
  fun_cases scanAfterPads w with
  | case1 | case2 | case3 => rintro ⟨⟩; decide
  | case4 => exact scanHeaderBody_error

theorem scanHeader_error {w : List Byte} {c : ResultCode} (h : scanHeader w = .error c) :
    c ∈ [.incomplete, .invalidFrameEncoding, .invalidEscape] := by
  revert h
  fun_cases scanHeader w with
  | case1 | case2 => rintro ⟨⟩; decide
  | case3 => exact scanAfterPads_error

theorem consPayload_error {b : Byte} {x : Except ResultCode (List Byte × Byte × List Byte)} {c : ResultCode}
    (h : consPayload b x = .error c) : x = .error c := by
  cases x with
  | error => exact h
  | ok => cases h

theorem scanPayload_error {n : Nat} {w : List Byte} {c : ResultCode} (h : scanPayload n w = .error c) :
    c ∈ [.incomplete, .invalidEscape, .overrun] := by
  fun_induction scanPayload n w with
  | case1 | case2 | case4 | case6 | case7 => cases h; decide
  | case3 => cases h
  | case5 _ _ _ _ _ _ ih | case8 _ _ _ _ _ ih => exact ih (consPayload_error h)

theorem scanData_error {wide : Bool} {w : List Byte} {c : ResultCode} (h : scanData wide w = .error c) :
    c ∈ [.incomplete, .invalidEscape, .overrun] := by
  revert h
  fun_cases scanData wide w with
  | case1 _ hpayload => rintro ⟨⟩; exact scanPayload_error hpayload
  | case2 _ _ _ _ _ _ hbytes | case4 _ _ _ _ _ _ hbytes =>
    rintro ⟨⟩
    rcases unescBytes_error hbytes with rfl | rfl <;> decide
  | case3 | case5 => nofun

/-! ## Their class -/

theorem scanBlock_error_isFault {v : XVariant} {w : List Byte} {c : ResultCode} (h : scanBlock v w = .error c) :
    codeIsFault c = true := by
  rcases scanBlock_error h with rfl | rfl | rfl <;> rfl

theorem scanHeader_error_isFault {w : List Byte} {c : ResultCode} (h : scanHeader w = .error c) :
    codeIsFault c = true := by
  have hfault : ∀ c ∈ [ResultCode.incomplete, .invalidFrameEncoding, .invalidEscape], codeIsFault c = true := by
    decide
  exact hfault c (scanHeader_error h)

theorem scanData_error_isFault {wide : Bool} {w : List Byte} {c : ResultCode} (h : scanData wide w = .error c) :
    codeIsFault c = true := by
  have hfault : ∀ c ∈ [ResultCode.incomplete, .invalidEscape, .overrun], codeIsFault c = true := by decide
  exact hfault c (scanData_error h)

end Sys2Proof.Machine
end

section
/-! How a command ends (spec/60_exceptions.md R273, R274). Every command's result is of one of four kinds
(`EndsByClass`): `Ok`, a fault from the state before, a fault of a parser that has recorded its check values, or a
`result` that changes `RT_STAT` only. The status update does the rest. -/

namespace Sys2Proof.Machine

/-! ## The four kinds of ending -/

/-- The codes a parser answers before it has two check values to compare. -/
def scanCodes : List ResultCode := [.incomplete, .complementMismatch, .invalidFrameEncoding, .invalidEscape, .overrun]

/-- The result of the command `i` in the state `s`, by the class of its code (R270, R273, R274). -/
inductive EndsByClass (i : Instr) (s : State) : Result → Prop where
  /-- The command has done its work; none but `SRST` touches the error registers in it. -/
  | ok (u : State) (hkeep : i ≠ .srst → u.errflags = s.errflags ∧ u.errinfo = s.errinfo) :
      EndsByClass i s (finish i .ok u)
  /-- A fault that has changed nothing. -/
  | fault (c : ResultCode) (hc : codeIsFault c = true) : EndsByClass i s (finish i c s)
  /-- A parser's fault at or behind its comparison: the two check values are recorded (R41). -/
  | compared (c : ResultCode) (a b : Word) (hi : isParser i = true) (hc : codeIsFault c = true)
      (hlate : c ∉ scanCodes) : EndsByClass i s (finish i c (setCheckValues a b s))
  /-- An exhausted budget or a passed deadline: only `RT_STAT` may have changed (R250). -/
  | retry (c : ResultCode) (r : RtStat) (hc : c = .timeout ∨ c = .maxRetriesExceeded) :
      EndsByClass i s (finish i c { s with rtStat := r })

theorem endsByClass_ite {p : Prop} [Decidable p] {i : Instr} {s : State} {a b : Result}
    (ha : EndsByClass i s a) (hb : EndsByClass i s b) : EndsByClass i s (if p then a else b) := by
  split
  · exact ha
  · exact hb

/-- An effect that does not reach the error registers, ended `Ok`. -/
theorem endsByClass_done {i : Instr} {s u : State} (hflags : u.errflags = s.errflags)
    (hinfo : u.errinfo = s.errinfo) : EndsByClass i s (finish i .ok u) :=
  .ok u fun _ => ⟨hflags, hinfo⟩

theorem endsByClass_finishEmit (i : Instr) (w : List Byte) (s : State) : EndsByClass i s (finishEmit i w s) :=
  endsByClass_ite (.fault .bufferFull rfl) (endsByClass_done rfl rfl)

theorem endsByClass_exhausted (i : Instr) (s : State) : EndsByClass i s (finish i .maxRetriesExceeded s) :=
  .retry .maxRetriesExceeded s.rtStat (.inr rfl)

/-- A counted failure ends with its own code while budget remains, whatever `RT_STAT` then holds. -/
theorem endsByClass_finishBump {i : Instr} {c : ResultCode} {s : State}
    (hremaining : ∀ r, EndsByClass i s (finish i c { s with rtStat := r })) :
    EndsByClass i s (finishBump i c s) := by
  unfold finishBump
  dsimp only
  split
  · exact .retry .maxRetriesExceeded _ (.inr rfl)
  · exact hremaining _

/-! The commands that look at a buffer's first byte, at the escape decoder or at a parser's scan, and the one that
emits a fixed block. -/

theorem execObPop_endsByClass (s : State) : EndsByClass .obPop s (execObPop s) := by
  unfold execObPop
  split
  · exact .fault .bufferEmpty rfl
  · exact endsByClass_done rfl rfl

theorem execRpPop_endsByClass (s : State) : EndsByClass .rpPop s (execRpPop s) := by
  unfold execRpPop
  split
  · exact .fault .bufferEmpty rfl
  · exact endsByClass_done rfl rfl

theorem execZdPut_endsByClass (b : Byte) (s : State) : EndsByClass (.zdPut b) s (execZdPut b s) := by
  unfold execZdPut
  split
  · next herr =>
    obtain ⟨-, -, rfl⟩ := zdStep_error herr
    exact .fault .invalidEscape rfl
  · exact endsByClass_done rfl rfl
  · exact endsByClass_ite (.fault .bufferFull rfl) (endsByClass_done rfl rfl)

theorem execZdBuf_endsByClass (s : State) : EndsByClass .zdBuf s (execZdBuf s) := by
  unfold execZdBuf
  split
  · next herr =>
    rw [zdec_error herr]
    exact .fault .invalidEscape rfl
  · exact endsByClass_ite (.fault .bufferFull rfl) (endsByClass_done rfl rfl)

theorem execFsYeob_endsByClass (s : State) : EndsByClass .fsYeob s (execFsYeob s) := by
  unfold execFsYeob
  exact endsByClass_finishEmit ..

theorem execFpXblk_endsByClass (s : State) : EndsByClass .fpXblk s (execFpXblk s) := by
  unfold execFpXblk
  split
  · next herr => exact .fault _ (scanBlock_error_isFault herr)
  · refine endsByClass_ite ?_ (endsByClass_done rfl rfl)
    cases s.cfg.xvar with
    | checksum => exact .compared .checksumMismatch _ _ rfl rfl (by decide)
    | crc | oneK => exact .compared .crcMismatch _ _ rfl rfl (by decide)

theorem execFpYb0_endsByClass (s : State) : EndsByClass .fpYb0 s (execFpYb0 s) := by
  unfold execFpYb0
  split
  · next herr => exact .fault _ (scanBlock_error_isFault herr)
  · exact endsByClass_ite (.compared .crcMismatch _ _ rfl rfl (by decide))
      (endsByClass_ite (.compared .invalidBlockHeader _ _ rfl rfl (by decide)) (endsByClass_done rfl rfl))

theorem execFpZhdr_endsByClass (s : State) : EndsByClass .fpZhdr s (execFpZhdr s) := by
  unfold execFpZhdr
  split
  · next herr => exact .fault _ (scanHeader_error_isFault herr)
  · exact endsByClass_ite (.compared .crcMismatch _ _ rfl rfl (by decide))
      (endsByClass_ite (.compared .invalidFrameType _ _ rfl rfl (by decide)) (endsByClass_done rfl rfl))

theorem execFpZdat_endsByClass (s : State) : EndsByClass .fpZdat s (execFpZdat s) := by
  unfold execFpZdat
  split
  · next herr => exact .fault _ (scanData_error_isFault herr)
  · exact endsByClass_ite (.compared .crcMismatch _ _ rfl rfl (by decide)) (endsByClass_done rfl rfl)

/-- Every command ends in one of the four kinds: the cases are the shapes of the commands' definitions. -/
theorem exec_endsByClass (i : Instr) (s : State) : EndsByClass i s (exec i s) := by
  cases i with
  | srst => exact .ok _ fun h => absurd rfl h
  | nop | ibClr | ibDrop | ibHunt | obClr | tpClr | rpClr | ck8Init | ck8Upd | ck8Buf | c16Init | c16Upd
  | c16Buf | c32Init | c32Upd | c32Buf | zeRst | zdRst | rtRst => exact endsByClass_done rfl rfl
  | ibPush | tpPush => exact endsByClass_ite (.fault .bufferFull rfl) (endsByClass_done rfl rfl)
  | zdEnd => exact endsByClass_ite (.fault .invalidEscape rfl) (endsByClass_done rfl rfl)
  | obPush | zePut | zeBuf | fsZdat => exact endsByClass_finishEmit ..
  | fsXblk => exact endsByClass_ite (.fault .overrun rfl) (endsByClass_finishEmit ..)
  | fsZhdr => exact endsByClass_ite (.fault .invalidFrameType rfl) (endsByClass_finishEmit ..)
  | fsYb0 =>
    exact endsByClass_ite (.fault .illegalCommand rfl)
      (endsByClass_ite (.fault .overrun rfl) (endsByClass_finishEmit ..))
  | rtArm | rtOk => exact endsByClass_ite (endsByClass_exhausted ..) (endsByClass_done rfl rfl)
  | rtFail =>
    exact endsByClass_ite (endsByClass_exhausted ..) (endsByClass_finishBump fun _ => endsByClass_done rfl rfl)
  | rtPoll =>
    exact endsByClass_ite (endsByClass_exhausted ..)
      (endsByClass_ite (endsByClass_done rfl rfl)
        (endsByClass_ite (endsByClass_done rfl rfl)
          (endsByClass_finishBump fun r => .retry .timeout r (.inl rfl))))
  | obPop => exact execObPop_endsByClass s
  | rpPop => exact execRpPop_endsByClass s
  | zdPut b => exact execZdPut_endsByClass b s
  | zdBuf => exact execZdBuf_endsByClass s
  | fsYeob => exact execFsYeob_endsByClass s
  | fpXblk => exact execFpXblk_endsByClass s
  | fpYb0 => exact execFpYb0_endsByClass s
  | fpZhdr => exact execFpZhdr_endsByClass s
  | fpZdat => exact execFpZdat_endsByClass s

/-! ## What each kind writes -/

/-- The error registers after the command `i`: a code other than `Ok` has set its flag and stored the command word,
`Ok` has left both (R273). -/
def StatusUpdated (i : Instr) (s t : State) : Prop :=
  (t.result ≠ .ok → t.errflags = s.errflags ||| (1#32 <<< (codeNumber t.result).toNat) ∧ t.errinfo = encode i)
  ∧ (t.result = .ok → t.errflags = s.errflags ∧ t.errinfo = s.errinfo)

/-- The status update is all that touches the error registers, if the command's own effect did not. -/
theorem statusUpdated_of_finish {i : Instr} {c : ResultCode} {s t u : State} (h : finish i c u = .next t)
    (hflags : u.errflags = s.errflags) (hinfo : u.errinfo = s.errinfo) : StatusUpdated i s t := by
  rw [StatusUpdated, ← hflags, ← hinfo]
  obtain ⟨-, ⟨-, rfl⟩ | ⟨hc, rfl⟩⟩ := finish_cases h
  · exact ⟨fun hne => absurd rfl hne, fun _ => ⟨rfl, rfl⟩⟩
  · exact ⟨fun _ => ⟨rfl, rfl⟩, fun hok => absurd hok hc⟩

theorem exec_statusUpdated {i : Instr} {s t : State} (hi : i ≠ .srst) (hexec : exec i s = .next t) :
    StatusUpdated i s t := by
  cases hexec ▸ exec_endsByClass i s with
  | ok u hkeep =>
    obtain ⟨hflags, hinfo⟩ := hkeep hi
    exact statusUpdated_of_finish rfl hflags hinfo
  | fault c | compared c | retry c => exact statusUpdated_of_finish (c := c) rfl rfl rfl

theorem exec_srst (s : State) : exec .srst s = .next (resetBlock s) := finish_ok ..

/-- Settles O14: the four kinds of ending leave the error registers to the status update (`exec_statusUpdated`), which
writes the encoder's word, and that is any word that decodes to the command (`encode_of_decode`). -/
theorem everyCommandEndsWithStatusUpdate : Obligations.EveryCommandEndsWithStatusUpdate := by
  intro i s
  by_cases hi : i = .srst
  · subst hi
    exact ⟨_, exec_srst s, fun h => absurd rfl h, fun _ h => absurd rfl h, fun _ => ⟨rfl, rfl, rfl⟩⟩
  · obtain ⟨t, hexec⟩ := exec_next i s
    obtain ⟨hother, hok⟩ := exec_statusUpdated hi hexec
    refine ⟨t, hexec, fun hne => ?_, fun heq _ => hok heq, fun h => absurd h hi⟩
    obtain ⟨hflags, hinfo⟩ := hother hne
    exact ⟨hflags, fun w hw => hinfo.trans (encode_of_decode hw)⟩

/-- Settles O16: each of the four kinds of ending says what the command has changed and the class of its code, so
only the clauses of its own class apply to it. -/
theorem faultsArePrecise : Obligations.FaultsArePrecise := by
  intro i s t hexec
  cases hexec ▸ exec_endsByClass i s with
  | ok u => exact ⟨nofun, nofun⟩
  | fault c hc => exact ⟨fun _ => ⟨rfl, fun _ => ⟨rfl, rfl⟩⟩, fun _ => rfl⟩
  | compared c a b hi hc hlate =>
    refine ⟨fun _ => ⟨rfl, ?_⟩, ?_⟩
    · rintro (h | h)
      · exact absurd (hi.symm.trans h) (by decide)
      · exact absurd h hlate
    · rintro (rfl | rfl) <;> contradiction
  | retry c r hc =>
    refine ⟨fun hfault => ?_, fun _ => rfl⟩
    rcases hc with rfl | rfl <;> contradiction

end Sys2Proof.Machine
end

section
/-! The command words (spec/30_encoding.md R110 to R117) and what a step does with one (spec/20_memory.md R82, R92):
the encoder and the decoder are inverse to each other, a word of no row ends `IllegalCommand`, and the two system
commands. -/

namespace Sys2Proof.Machine

/-! ## Encoder and decoder -/

/-- Every command's word has the layout of its row (family `EncodingLayout`). -/
theorem encodingLayout (i : Instr) : Laws.EncodingLayout.Statement i := by
  cases i with
  | nop => exact Laws.EncodingLayout.nop
  | srst => exact Laws.EncodingLayout.srst
  | ibPush b => exact Laws.EncodingLayout.ibPush b
  | ibClr => exact Laws.EncodingLayout.ibClr
  | ibDrop n => exact Laws.EncodingLayout.ibDrop n
  | ibHunt => exact Laws.EncodingLayout.ibHunt
  | obPush b => exact Laws.EncodingLayout.obPush b
  | obPop => exact Laws.EncodingLayout.obPop
  | obClr => exact Laws.EncodingLayout.obClr
  | tpPush b => exact Laws.EncodingLayout.tpPush b
  | tpClr => exact Laws.EncodingLayout.tpClr
  | rpPop => exact Laws.EncodingLayout.rpPop
  | rpClr => exact Laws.EncodingLayout.rpClr
  | ck8Init => exact Laws.EncodingLayout.ck8Init
  | ck8Upd b => exact Laws.EncodingLayout.ck8Upd b
  | ck8Buf => exact Laws.EncodingLayout.ck8Buf
  | c16Init => exact Laws.EncodingLayout.c16Init
  | c16Upd b => exact Laws.EncodingLayout.c16Upd b
  | c16Buf => exact Laws.EncodingLayout.c16Buf
  | c32Init => exact Laws.EncodingLayout.c32Init
  | c32Upd b => exact Laws.EncodingLayout.c32Upd b
  | c32Buf => exact Laws.EncodingLayout.c32Buf
  | zeRst => exact Laws.EncodingLayout.zeRst
  | zePut b => exact Laws.EncodingLayout.zePut b
  | zeBuf => exact Laws.EncodingLayout.zeBuf
  | zdRst => exact Laws.EncodingLayout.zdRst
  | zdPut b => exact Laws.EncodingLayout.zdPut b
  | zdEnd => exact Laws.EncodingLayout.zdEnd
  | zdBuf => exact Laws.EncodingLayout.zdBuf
  | fsXblk => exact Laws.EncodingLayout.fsXblk
  | fsYb0 => exact Laws.EncodingLayout.fsYb0
  | fsYeob => exact Laws.EncodingLayout.fsYeob
  | fsZhdr => exact Laws.EncodingLayout.fsZhdr
  | fsZdat => exact Laws.EncodingLayout.fsZdat
  | fpXblk => exact Laws.EncodingLayout.fpXblk
  | fpYb0 => exact Laws.EncodingLayout.fpYb0
  | fpZhdr => exact Laws.EncodingLayout.fpZhdr
  | fpZdat => exact Laws.EncodingLayout.fpZdat
  | rtRst => exact Laws.EncodingLayout.rtRst
  | rtArm => exact Laws.EncodingLayout.rtArm
  | rtOk => exact Laws.EncodingLayout.rtOk
  | rtFail => exact Laws.EncodingLayout.rtFail
  | rtPoll => exact Laws.EncodingLayout.rtPoll

/-- Settles O1: the encoder's word has the layout of the command's row (`encodingLayout`), and a word with that
layout decodes to the command (`decode_encode_of_layout`). -/
theorem decodeEncodeRoundTrip : Obligations.DecodeEncodeRoundTrip :=
  fun i hwf => decode_encode_of_layout (encodingLayout i) hwf

theorem wellFormed_formCommand (w : Word) : ∀ r ∈ opcodeMap, (formCommand w r.form).wellFormed = true := by
  have hcount : w.toNat % 65536 < 65536 := Nat.mod_lt _ (by decide)
  simp [opcodeMap, opcodeMapSystem, opcodeMapChecksum, opcodeMapEscape, opcodeMapSerializer, opcodeMapParser,
    opcodeMapRetry, formCommand, Instr.wellFormed, hcount]

theorem formCommand_of_decode {w : Word} {i : Instr} (h : decode w = .ok i) :
    ∃ r ∈ opcodeMap, Matches w r ∧ i = formCommand w r.form := by
  by_cases hrow : ∃ r ∈ opcodeMap, opField w = r.op
  · obtain ⟨r, hmem, hop⟩ := hrow
    rw [decode_of_row r hmem hop, decodeForm_eq hop] at h
    split at h
    · next hmatch => exact ⟨r, hmem, hmatch, (Except.ok.inj h).symm⟩
    · cases h
  · push Not at hrow
    rw [decode_of_no_row hrow] at h
    cases h

/-- Settles O2: a word that decodes is a row's (`formCommand_of_decode`), whose operand fits its field
(`wellFormed_formCommand`), and the encoder writes it again (`encode_of_decode`). -/
theorem decodedWordIsItsEncoding : Obligations.DecodedWordIsItsEncoding := by
  intro w i h
  obtain ⟨r, hmem, -, rfl⟩ := formCommand_of_decode h
  exact ⟨wellFormed_formCommand w r hmem, encode_of_decode h⟩

/-- Settles O4: the decoder evaluated on each word. -/
theorem specWordsDecode : Obligations.SpecWordsDecode := by
  unfold Obligations.SpecWordsDecode
  decide

/-! ## A command word at `CMD` -/

theorem perform_word (w : Word) (s : State) : perform (.write 0 4 w) s = runCommand w s := rfl

theorem runCommand_illegal {w : Word} {e : IllegalWord} (h : decode w = .error e) (s : State) :
    runCommand w s = .next (ended .illegalCommand w s) := by
  rw [runCommand, h]
  exact finishIllegal_eq w s

theorem decode_of_no_match {w : Word} (h : ∀ r ∈ opcodeMap, ¬ Matches w r) : ∃ e, decode w = .error e := by
  cases hw : decode w with
  | error e => exact ⟨e, rfl⟩
  | ok i =>
    obtain ⟨r, hmem, hmatch, -⟩ := formCommand_of_decode hw
    exact absurd hmatch (h r hmem)

/-- Settles O5: the step performs the action, and a word that decodes runs its command (`perform_command`). -/
theorem stepRunsDecodedCommand : Obligations.StepRunsDecodedCommand := by
  intro s t w rest i hpending hdecode
  rw [step_pending hpending]
  exact perform_command _ hdecode

/-- Settles O6: a word of no row does not decode (`decode_of_no_match`), and such a word only writes the three error
registers (`runCommand_illegal`). -/
theorem undecodableWordEndsIllegalCommand : Obligations.UndecodableWordEndsIllegalCommand := by
  intro s t w rest hpending hno
  obtain ⟨e, he⟩ := decode_of_no_match hno
  rw [step_pending hpending, perform_word, runCommand_illegal he]

/-! ## The register window (R90) -/

/-- Settles O11: `BASE` is a multiple of 256 by definition, and the offset is the distance from it. -/
theorem windowAddresses : Obligations.WindowAddresses := by
  refine ⟨Nat.dvd_mul_right 256 _, fun off hoff => ?inside, fun addr haddr => if_neg ?outside⟩
  case inside =>
    rw [windowOffset, Config.windowSize, if_pos ⟨Nat.le_add_right _ _, by omega⟩, Nat.add_sub_cancel_left]
  case outside =>
    rw [Config.windowSize]
    omega

/-! ## The system commands and the reset (R131, R132, R300) -/

theorem exec_nop (s : State) : exec .nop s = .next (endedOk s) := finish_ok ..

/-- Settles O13: SRST and the platform's reset both answer `resetBlock`, NOP reports `Ok`, and a step with no action
is idle. -/
theorem srstIsResetAndNopOnlyReports : Obligations.SrstIsResetAndNopOnlyReports := by
  refine ⟨exec_srst, fun s t rest hpending => ?_, exec_nop, fun s => step_idle⟩
  rw [step_pending hpending]
  rfl

/-- Settles O19: each clause of the invariant evaluated at the reset state. -/
theorem resetSatisfiesInvariant : Obligations.ResetSatisfiesInvariant := by
  unfold Obligations.ResetSatisfiesInvariant
  decide

/-! ## The result codes (R270) -/

theorem regRead_result (s : State) : regRead 0x04 s = (codeNumber s.result).setWidth 32 := rfl

/-- Settles O60: the rows by evaluation, each code against the rows, and a read of RESULT by `regRead_result`. -/
theorem resultCodeNumbersAndClasses : Obligations.ResultCodeNumbersAndClasses := by
  unfold Obligations.ResultCodeNumbersAndClasses
  intro table
  have hrows : ∀ row ∈ table, codeNumber row.1 = row.2.1 ∧ codeIsFault row.1 = row.2.2 := by decide
  refine ⟨hrows, fun c => by cases c <;> decide, fun s row hrow hresult => ?_⟩
  rw [regRead_result, hresult, (hrows row hrow).1]

end Sys2Proof.Machine
end

section
/-! The register window field by field (spec/20_memory.md R81, R82; spec/10_state.md R22 to R47): an update of one
field of the state is seen at that field's own offset only, a register reads as the sum of its fields, and a write
is the rule of its row. -/

namespace Sys2Proof.Machine

/-! ## Which register shows which field (R22) -/

theorem regRead_set_result {off : Nat} (h : off ≠ 0x04) (v : ResultCode) (s : State) :
    regRead off { s with result := v } = regRead off s := by
  unfold regRead
  split <;> simp [escmapLoRead] at h ⊢

theorem regRead_set_errflags {off : Nat} (h : off ≠ 0x08) (v : Word) (s : State) :
    regRead off { s with errflags := v } = regRead off s := by
  unfold regRead
  split <;> simp [escmapLoRead] at h ⊢

theorem regRead_set_errinfo {off : Nat} (h : off ≠ 0x0C) (v : Word) (s : State) :
    regRead off { s with errinfo := v } = regRead off s := by
  unfold regRead
  split <;> simp [escmapLoRead] at h ⊢

theorem regRead_set_cfg {off : Nat} (h : off ≠ 0x10) (v : Cfg) (s : State) :
    regRead off { s with cfg := v } = regRead off s := by
  unfold regRead
  split <;> simp [escmapLoRead] at h ⊢

theorem regRead_set_escmapLo {off : Nat} (h : off ≠ 0x14) (v : Word) (s : State) :
    regRead off { s with escmapLo := v } = regRead off s := by
  unfold regRead
  split <;> simp at h ⊢

theorem regRead_set_escmapHi {off : Nat} (h : off ≠ 0x18) (v : Word) (s : State) :
    regRead off { s with escmapHi := v } = regRead off s := by
  unfold regRead
  split <;> simp [escmapLoRead] at h ⊢

theorem regRead_set_ck8 {off : Nat} (h : off ≠ 0x1C) (v : Byte) (s : State) :
    regRead off { s with ck8 := v } = regRead off s := by
  unfold regRead
  split <;> simp [escmapLoRead] at h ⊢

theorem regRead_set_crc16 {off : Nat} (h : off ≠ 0x20) (v : Half) (s : State) :
    regRead off { s with crc16 := v } = regRead off s := by
  unfold regRead
  split <;> simp [escmapLoRead] at h ⊢

theorem regRead_set_crc32Raw {off : Nat} (hlo : off ≠ 0x24) (hhi : off ≠ 0x28) (v : Word) (s : State) :
    regRead off { s with crc32Raw := v } = regRead off s := by
  unfold regRead
  split <;> simp [escmapLoRead] at hlo hhi ⊢

theorem regRead_set_zstate {off : Nat} (h : off ≠ 0x2C) (v : ZState) (s : State) :
    regRead off { s with zstate := v } = regRead off s := by
  unfold regRead
  split <;> simp [escmapLoRead] at h ⊢

theorem regRead_set_txDesc {off : Nat} (h : off ≠ 0x30) (v : TxDesc) (s : State) :
    regRead off { s with txDesc := v } = regRead off s := by
  unfold regRead
  split <;> simp [escmapLoRead] at h ⊢

theorem regRead_set_txZhdr {off : Nat} (h : off ≠ 0x34) (v : Word) (s : State) :
    regRead off { s with txZhdr := v } = regRead off s := by
  unfold regRead
  split <;> simp [escmapLoRead] at h ⊢

theorem regRead_set_txYsize {off : Nat} (h : off ≠ 0x38) (v : Word) (s : State) :
    regRead off { s with txYsize := v } = regRead off s := by
  unfold regRead
  split <;> simp [escmapLoRead] at h ⊢

theorem regRead_set_txYmtime {off : Nat} (h : off ≠ 0x3C) (v : Word) (s : State) :
    regRead off { s with txYmtime := v } = regRead off s := by
  unfold regRead
  split <;> simp [escmapLoRead] at h ⊢

theorem regRead_set_txYmode {off : Nat} (h : off ≠ 0x40) (v : Word) (s : State) :
    regRead off { s with txYmode := v } = regRead off s := by
  unfold regRead
  split <;> simp [escmapLoRead] at h ⊢

theorem regRead_set_rxDesc {off : Nat} (h : off ≠ 0x44) (v : RxDesc) (s : State) :
    regRead off { s with rxDesc := v } = regRead off s := by
  unfold regRead
  split <;> simp [escmapLoRead] at h ⊢

theorem regRead_set_rxZhdr {off : Nat} (h : off ≠ 0x48) (v : Word) (s : State) :
    regRead off { s with rxZhdr := v } = regRead off s := by
  unfold regRead
  split <;> simp [escmapLoRead] at h ⊢

theorem regRead_set_rxYsize {off : Nat} (h : off ≠ 0x4C) (v : Word) (s : State) :
    regRead off { s with rxYsize := v } = regRead off s := by
  unfold regRead
  split <;> simp [escmapLoRead] at h ⊢

theorem regRead_set_rxYmtime {off : Nat} (h : off ≠ 0x50) (v : Word) (s : State) :
    regRead off { s with rxYmtime := v } = regRead off s := by
  unfold regRead
  split <;> simp [escmapLoRead] at h ⊢

theorem regRead_set_rxYmode {off : Nat} (h : off ≠ 0x54) (v : Word) (s : State) :
    regRead off { s with rxYmode := v } = regRead off s := by
  unfold regRead
  split <;> simp [escmapLoRead] at h ⊢

theorem regRead_set_rxYnlen {off : Nat} (h : off ≠ 0x58) (v : Byte) (s : State) :
    regRead off { s with rxYnlen := v } = regRead off s := by
  unfold regRead
  split <;> simp [escmapLoRead] at h ⊢

theorem regRead_set_rxCrcCalc {off : Nat} (h : off ≠ 0x5C) (v : Word) (s : State) :
    regRead off { s with rxCrcCalc := v } = regRead off s := by
  unfold regRead
  split <;> simp [escmapLoRead] at h ⊢

theorem regRead_set_rxCrcRcvd {off : Nat} (h : off ≠ 0x60) (v : Word) (s : State) :
    regRead off { s with rxCrcRcvd := v } = regRead off s := by
  unfold regRead
  split <;> simp [escmapLoRead] at h ⊢

theorem regRead_set_ibuf {off : Nat} (h : off ≠ 0x64) (v : List Byte) (s : State) :
    regRead off { s with ibuf := v } = regRead off s := by
  unfold regRead
  split <;> simp [escmapLoRead] at h ⊢

theorem regRead_set_obuf {off : Nat} (h : off ≠ 0x64) (v : List Byte) (s : State) :
    regRead off { s with obuf := v } = regRead off s := by
  unfold regRead
  split <;> simp [escmapLoRead] at h ⊢

theorem regRead_set_txp {off : Nat} (h : off ≠ 0x68) (v : List Byte) (s : State) :
    regRead off { s with txp := v } = regRead off s := by
  unfold regRead
  split <;> simp [escmapLoRead] at h ⊢

theorem regRead_set_rxp {off : Nat} (h : off ≠ 0x68) (v : List Byte) (s : State) :
    regRead off { s with rxp := v } = regRead off s := by
  unfold regRead
  split <;> simp [escmapLoRead] at h ⊢

theorem regRead_set_odata {off : Nat} (h : off ≠ 0x6C) (v : Byte) (s : State) :
    regRead off { s with odata := v } = regRead off s := by
  unfold regRead
  split <;> simp [escmapLoRead] at h ⊢

theorem regRead_set_rdata {off : Nat} (h : off ≠ 0x70) (v : Byte) (s : State) :
    regRead off { s with rdata := v } = regRead off s := by
  unfold regRead
  split <;> simp [escmapLoRead] at h ⊢

theorem regRead_set_rtMax {off : Nat} (h : off ≠ 0x74) (v : Half) (s : State) :
    regRead off { s with rtMax := v } = regRead off s := by
  unfold regRead
  split <;> simp [escmapLoRead] at h ⊢

theorem regRead_set_rtTmo {off : Nat} (h : off ≠ 0x78) (v : Word) (s : State) :
    regRead off { s with rtTmo := v } = regRead off s := by
  unfold regRead
  split <;> simp [escmapLoRead] at h ⊢

theorem regRead_set_rtStat {off : Nat} (h : off ≠ 0x7C) (v : RtStat) (s : State) :
    regRead off { s with rtStat := v } = regRead off s := by
  unfold regRead
  split <;> simp [escmapLoRead] at h ⊢

theorem regRead_set_rtDl {off : Nat} (hlo : off ≠ 0x80) (hhi : off ≠ 0x84) (v : Time) (s : State) :
    regRead off { s with rtDl := v } = regRead off s := by
  unfold regRead
  split <;> simp [escmapLoRead] at hlo hhi ⊢

/-! ## A register as the sum of its fields (R8) -/

theorem toNat_append_add {m n : Nat} (x : BitVec m) (y : BitVec n) :
    (x ++ y).toNat = x.toNat * 2 ^ n + y.toNat := by
  rw [BitVec.toNat_append, ← Nat.shiftLeft_add_eq_or_of_lt y.isLt, Nat.shiftLeft_eq]

theorem bit_toNat (b : Bool) : (bit b).toNat = flagNumber b := by
  cases b <;> rfl

theorem xvarBits_toNat (v : XVariant) : (xvarBits v).toNat = xvarNumber v := by
  cases v <;> rfl

theorem zencBits_toNat (e : ZEncoding) : (zencBits e).toNat = zencNumber e := by
  cases e <;> rfl

theorem packedWord_cons (lo value : Nat) (fields : List (Nat × Nat)) :
    packedWord ((lo, value) :: fields) = value * 2 ^ lo + packedWord fields := by
  simp [packedWord]

theorem packedWord_nil : packedWord [] = 0 := rfl

theorem packedWord_whole {w : Word} {n : Nat} (h : w.toNat = n) : w.toNat = packedWord [(0, n)] := by
  simp [packedWord, h]

theorem toNat_setWidth_word {n : Nat} (hn : n ≤ 32) (x : BitVec n) : (x.setWidth 32).toNat = x.toNat := by
  rw [BitVec.toNat_setWidth, Nat.mod_eq_of_lt (x.isLt.trans_le (Nat.pow_le_pow_right (by decide) hn))]

theorem cfgWord_toNat (c : Cfg) : (cfgWord c).toNat =
    packedWord [(0, xvarNumber c.xvar), (4, flagNumber c.zcrcw), (8, flagNumber c.crctx)] := by
  simp only [cfgWord, toNat_append_add, bit_toNat, xvarBits_toNat, packedWord_cons, packedWord_nil,
    BitVec.ofNat_eq_ofNat, BitVec.toNat_zero]
  omega

theorem zstateWord_toNat (z : ZState) : (zstateWord z).toNat =
    packedWord [(0, z.zeLast.toNat), (8, flagNumber z.zdPend)] := by
  simp only [zstateWord, toNat_append_add, bit_toNat, packedWord_cons, packedWord_nil, BitVec.ofNat_eq_ofNat,
    BitVec.toNat_zero]
  omega

theorem txDescWord_toNat (d : TxDesc) : (txDescWord d).toNat =
    packedWord [(0, d.blk.toNat), (8, d.ztype.toNat), (16, zencNumber d.zenc), (20, d.zend.toNat)] := by
  simp only [txDescWord, toNat_append_add, zencBits_toNat, packedWord_cons, packedWord_nil, BitVec.ofNat_eq_ofNat,
    BitVec.toNat_zero]
  omega

theorem rxDescWord_toNat (d : RxDesc) : (rxDescWord d).toNat =
    packedWord [(0, d.blk.toNat), (8, d.ztype.toNat), (16, zencNumber d.zenc), (20, d.zend.toNat),
      (24, flagNumber d.yeob), (25, flagNumber d.ysizeP), (26, flagNumber d.ymtimeP), (27, flagNumber d.ymodeP),
      (28, flagNumber d.yovf)] := by
  simp only [rxDescWord, toNat_append_add, bit_toNat, zencBits_toNat, packedWord_cons, packedWord_nil,
    BitVec.ofNat_eq_ofNat, BitVec.toNat_zero]
  omega

theorem rtStatWord_toNat (r : RtStat) : (rtStatWord r).toNat =
    packedWord [(0, r.cnt.toNat), (16, flagNumber r.armed), (17, flagNumber r.exh)] := by
  simp only [rtStatWord, toNat_append_add, bit_toNat, packedWord_cons, packedWord_nil, BitVec.ofNat_eq_ofNat,
    BitVec.toNat_zero]
  omega

theorem lengthsWord_toNat {low high : Nat} (hlow : low < 65536) (hhigh : high < 65536) :
    (lengthsWord low high).toNat = packedWord [(0, low), (16, high)] := by
  simp only [lengthsWord, toNat_append_add, BitVec.toNat_ofNat, packedWord_cons, packedWord_nil]
  omega

theorem packedWord_narrow {n : Nat} (x : BitVec n) (hn : n ≤ 32) :
    (x.setWidth 32).toNat = packedWord [(0, x.toNat)] :=
  packedWord_whole (toNat_setWidth_word hn x)

/-- Reserved bits that are 0 are not changed by the mask of a read (log entry 11). -/
theorem and_eq_self_of_reserved {x mask : Word} (h : x &&& ~~~mask = 0) : x &&& mask = x := by
  have hsplit : x = (x &&& mask) ||| (x &&& ~~~mask) := by
    rw [← BitVec.and_or_distrib_left, BitVec.or_not_self, BitVec.and_allOnes]
  rw [h] at hsplit
  exact (hsplit.trans BitVec.or_zero).symm

/-- The hardwired bit of a map that holds it (R29). -/
theorem or_hardwired_eq_self {x : Word} (h : x.getLsbD 24 = true) : x ||| escmapHardwired = x := by
  apply BitVec.eq_of_getLsbD_eq
  intro i _
  rw [BitVec.getLsbD_or, Bool.or_eq_left_iff_imp, escmapHardwired_getLsbD]
  rintro rfl
  exact h

/-- The registers one by one, in the order of the map. -/
theorem regRead_toNat_of_register {s : State} (hinv : s.Inv) :
    ∀ r ∈ registerMap, (regRead r.off s).toNat = packedWord (registerFields s r.off) := by
  obtain ⟨⟨hibuf, hobuf, htxp, hrxp⟩, hflags, hmap, -⟩ := hinv
  have hlengths0 : (lengthsWord s.ibuf.length s.obuf.length).toNat =
      packedWord [(0, s.ibuf.length), (16, s.obuf.length)] := lengthsWord_toNat (by omega) (by omega)
  have hlengths1 : (lengthsWord s.txp.length s.rxp.length).toNat =
      packedWord [(0, s.txp.length), (16, s.rxp.length)] := lengthsWord_toNat (by omega) (by omega)
  have hflagsRead := congrArg BitVec.toNat (and_eq_self_of_reserved hflags)
  have hmapRead := congrArg BitVec.toNat (or_hardwired_eq_self hmap)
  have hdlLow : (s.rtDl.extractLsb' 0 32).toNat = s.rtDl.toNat % 2 ^ 32 := by simp
  have hdlHigh : (s.rtDl.extractLsb' 32 32).toNat = s.rtDl.toNat / 2 ^ 32 := by
    rw [BitVec.extractLsb'_toNat, Nat.shiftRight_eq_div_pow]
    omega
  simp only [registerMap, registerMapLow, registerMapHigh, List.cons_append, List.nil_append, List.forall_mem_cons]
  exact ⟨rfl, packedWord_narrow _ (by decide), packedWord_whole hflagsRead, packedWord_whole rfl, cfgWord_toNat s.cfg,
    packedWord_whole hmapRead, packedWord_whole rfl, packedWord_narrow _ (by decide),
    packedWord_narrow _ (by decide), packedWord_whole rfl, packedWord_whole rfl, zstateWord_toNat s.zstate,
    txDescWord_toNat s.txDesc, packedWord_whole rfl, packedWord_whole rfl, packedWord_whole rfl, packedWord_whole rfl,
    rxDescWord_toNat s.rxDesc, packedWord_whole rfl, packedWord_whole rfl, packedWord_whole rfl, packedWord_whole rfl,
    packedWord_narrow _ (by decide), packedWord_whole rfl, packedWord_whole rfl, hlengths0, hlengths1,
    packedWord_narrow _ (by decide), packedWord_narrow _ (by decide), packedWord_narrow _ (by decide),
    packedWord_whole rfl, rtStatWord_toNat s.rtStat, packedWord_whole hdlLow, packedWord_whole hdlHigh, nofun⟩

theorem registerFields_reserved {off : Nat} (h : registerAt off = none) (s : State) : registerFields s off = [] := by
  have hlow : registerFieldsLow s off = [] := by
    unfold registerFieldsLow
    split
    case h_12 => rfl
    all_goals exact absurd h (by decide)
  have hcodec : registerFieldsCodec s off = [] := by
    unfold registerFieldsCodec
    split
    case h_14 => rfl
    all_goals exact absurd h (by decide)
  have hhigh : registerFieldsHigh s off = [] := by
    unfold registerFieldsHigh
    split
    case h_10 => rfl
    all_goals exact absurd h (by decide)
  rw [registerFields, hlow, hcodec, hhigh]
  rfl

theorem regRead_toNat {s : State} (hinv : s.Inv) (off : Nat) :
    (regRead off s).toNat = packedWord (registerFields s off) := by
  cases h : registerAt off with
  | none => rw [regRead_reserved h, registerFields_reserved h]; rfl
  | some r =>
    obtain ⟨hmem, rfl⟩ := registerAt_some h
    exact regRead_toNat_of_register hinv r hmem

/-- No register stands above 0x84 (R22). -/
theorem registerAt_above {off : Nat} (h : 0x88 ≤ off) : registerAt off = none := by
  have hbelow : ∀ r ∈ registerMap, r.off < 0x88 := by decide
  rw [registerAt, List.find?_eq_none]
  intro r hr
  have := hbelow r hr
  simp
  omega

theorem perform_aligned_read {off : Nat} (halign : off % 4 = 0) (hoff : off ≤ 0xFC) (s : State) :
    perform (.read off 4) s = .next { s with readData := regRead off s } :=
  if_pos ((accessAccepted_iff_le off 4).mpr ⟨rfl, halign, hoff⟩)

/-- Settles O7: a read answers the register (`perform_aligned_read`), whose word is the sum of its fields
(`regRead_toNat`). -/
theorem registerReadHasNoSideEffect : Obligations.RegisterReadHasNoSideEffect := by
  intro s t off rest hpending halign hoff
  refine ⟨?step, ?reserved, fun hinv => regRead_toNat hinv off⟩
  case step =>
    rw [step_pending hpending, perform_aligned_read halign hoff]
    rfl
  case reserved =>
    rintro (rfl | habove)
    · rfl
    · exact regRead_reserved (registerAt_above habove) s

/-! ## A register write (R82) -/

/-- The offsets the host can write (R22). -/
def writableOffsets : List Nat :=
  [0x08, 0x10, 0x14, 0x18, 0x1C, 0x20, 0x24, 0x30, 0x34, 0x38, 0x3C, 0x40, 0x74, 0x78]

theorem mem_writableOffsets {off : Nat} (h : hostWritable off = true) : off ∈ writableOffsets := by
  have hrows : ∀ r ∈ registerMap, hostWritable r.off = true → r.off ∈ writableOffsets := by decide
  cases hoff : registerAt off with
  | none => exact absurd ((hostWritable_reserved hoff).symm.trans h) (by decide)
  | some r =>
    obtain ⟨hmem, rfl⟩ := registerAt_some hoff
    exact hrows r hmem h

/-- A two-bit field placed at bit `lo`. -/
def placed (lo : Nat) (x : BitVec 2) : Word := x.setWidth 32 <<< lo

theorem and_twoBitMask (lo : Nat) (w : Word) : w &&& 3#32 <<< lo = placed lo (w.extractLsb' lo 2) := by
  have hthree : ∀ k : Fin 32, (3#32).getLsbD k = decide (k.val < 2) := by decide
  rw [placed]
  apply BitVec.eq_of_getLsbD_eq
  intro i hi
  have hmask := hthree ⟨i - lo, by omega⟩
  rw [BitVec.getLsbD_and, BitVec.getLsbD_shiftLeft, BitVec.getLsbD_shiftLeft, hmask]
  grind

theorem extractLsb'_placed {lo : Nat} (hlo : lo + 2 ≤ 32) (x : BitVec 2) : (placed lo x).extractLsb' lo 2 = x := by
  rw [placed]
  ext i hi
  have h : lo + i < 32 := by omega
  simp [h]
  grind

theorem twoBitWrite_eq {lo : Nat} (hlo : lo + 2 ≤ 32) (v old : Word) : twoBitWrite lo v old =
    placed lo (if v.extractLsb' lo 2 = 3 then old.extractLsb' lo 2 else v.extractLsb' lo 2) := by
  have hreserved : placed lo (v.extractLsb' lo 2) = 3#32 <<< lo ↔ v.extractLsb' lo 2 = 3 := by
    refine ⟨fun h => ?_, fun h => by rw [h, placed]; rfl⟩
    rw [← extractLsb'_placed hlo (v.extractLsb' lo 2), h]
    exact extractLsb'_placed hlo 3
  rw [twoBitWrite]
  simp only [and_twoBitMask, hreserved, apply_ite (placed lo)]

theorem xvarBits_xvarWrite (x : BitVec 2) (old : XVariant) :
    xvarBits (xvarWrite x old) = if x = 3 then xvarBits old else x := by
  revert x
  cases old <;> decide

theorem zencBits_zencWrite (x : BitVec 2) (old : ZEncoding) :
    zencBits (zencWrite x old) = if x = 3 then zencBits old else x := by
  revert x
  cases old <;> decide

theorem cfgWord_xvar (c : Cfg) : (cfgWord c).extractLsb' 0 2 = xvarBits c.xvar := by
  ext i hi
  grind [cfgWord]

theorem txDescWord_zenc (d : TxDesc) : (txDescWord d).extractLsb' 16 2 = zencBits d.zenc := by
  ext i hi
  grind [txDescWord]

theorem cfgWord_cfgWrite (v : Word) (old : Cfg) :
    cfgWord (cfgWrite v old) = (v &&& 0x110) ||| twoBitWrite 0 v (cfgWord old) := by
  rw [twoBitWrite_eq (by decide), cfgWord_xvar, ← xvarBits_xvarWrite, cfgWord, cfgWrite]
  generalize xvarBits (xvarWrite (v.extractLsb' 0 2) old.xvar) = x
  have hmask : ∀ k : Fin 32, (0x110 : Word).getLsbD k = decide (k.val = 4 ∨ k.val = 8) := by decide
  apply BitVec.eq_of_getLsbD_eq
  intro i hi
  have hi' := hmask ⟨i, hi⟩
  rw [BitVec.getLsbD_or, BitVec.getLsbD_and, hi']
  grind [placed, bit]

theorem txDescWord_txDescWrite (v : Word) (old : TxDesc) :
    txDescWord (txDescWrite v old) = (v &&& 0x00301FFF) ||| twoBitWrite 16 v (txDescWord old) := by
  rw [twoBitWrite_eq (by decide), txDescWord_zenc, ← zencBits_zencWrite, txDescWord, txDescWrite]
  generalize zencBits (zencWrite (v.extractLsb' 16 2) old.zenc) = x
  have hmask : ∀ k : Fin 32, (0x00301FFF : Word).getLsbD k = decide (k.val < 13 ∨ k.val = 20 ∨ k.val = 21) := by decide
  apply BitVec.eq_of_getLsbD_eq
  intro i hi
  have hi' := hmask ⟨i, hi⟩
  rw [BitVec.getLsbD_or, BitVec.getLsbD_and, hi']
  grind [placed]

theorem setWidth_extractLsb'_low (n : Nat) (v : Word) :
    (v.extractLsb' 0 n).setWidth 32 = v &&& (BitVec.allOnes n).setWidth 32 := by
  ext i hi
  grind

/-- The word read after a write, at each register the host can write. -/
theorem regRead_regWrite_of_writable (v : Word) (s : State) :
    ∀ off ∈ writableOffsets, regRead off (regWrite off v s) = writtenWord off v (regRead off s) := by
  have hwhole : v = v &&& 0xFFFFFFFF := (BitVec.and_allOnes (x := v)).symm
  have hflags : s.errflags &&& ~~~v &&& errflagsAssigned = s.errflags &&& errflagsAssigned &&& ~~~v := by
    rw [BitVec.and_assoc, BitVec.and_comm (~~~v), ← BitVec.and_assoc]
  have hmap : v ||| escmapHardwired ||| escmapHardwired = v ||| escmapHardwired := by
    rw [BitVec.or_assoc, BitVec.or_self]
  simp only [writableOffsets, List.forall_mem_cons]
  exact ⟨hflags, cfgWord_cfgWrite v s.cfg, hmap, hwhole, setWidth_extractLsb'_low 8 v, setWidth_extractLsb'_low 16 v,
    hwhole, txDescWord_txDescWrite v s.txDesc, hwhole, hwhole, hwhole, hwhole, setWidth_extractLsb'_low 16 v, hwhole,
    nofun⟩

theorem regRead_regWrite (off : Nat) (v : Word) (s : State) :
    regRead off (regWrite off v s) = writtenWord off v (regRead off s) := by
  cases h : hostWritable off with
  | false => rw [regWrite_not_writable h, writtenWord, if_pos h]
  | true => exact regRead_regWrite_of_writable v s off (mem_writableOffsets h)

/-- Every other register reads as before, but the view `CRC32_OUT` of `CRC32_RAW` (R33). -/
theorem regRead_regWrite_other {off other : Nat} (hne : other ≠ off) (hview : ¬ (off = 0x24 ∧ other = 0x28))
    (v : Word) (s : State) : regRead other (regWrite off v s) = regRead other s := by
  unfold regWrite
  split
  · exact regRead_set_errflags hne _ s
  · exact regRead_set_cfg hne _ s
  · exact regRead_set_escmapLo hne _ s
  · exact regRead_set_escmapHi hne _ s
  · exact regRead_set_ck8 hne _ s
  · exact regRead_set_crc16 hne _ s
  · exact regRead_set_crc32Raw hne (fun h => hview ⟨rfl, h⟩) _ s
  · exact regRead_set_txDesc hne _ s
  · exact regRead_set_txZhdr hne _ s
  · exact regRead_set_txYsize hne _ s
  · exact regRead_set_txYmtime hne _ s
  · exact regRead_set_txYmode hne _ s
  · exact regRead_set_rtMax hne _ s
  · exact regRead_set_rtTmo hne _ s
  · rfl

/-- A register write reaches no buffer and none of the model's own fields. -/
theorem regWrite_keeps (off : Nat) (v : Word) (s : State) :
    (regWrite off v s).ibuf = s.ibuf ∧ (regWrite off v s).obuf = s.obuf ∧ (regWrite off v s).txp = s.txp
    ∧ (regWrite off v s).rxp = s.rxp ∧ (regWrite off v s).now = s.now ∧ (regWrite off v s).pending = s.pending
    ∧ (regWrite off v s).readData = s.readData := by
  unfold regWrite
  split <;> exact ⟨rfl, rfl, rfl, rfl, rfl, rfl, rfl⟩

theorem perform_register_write {off : Nat} (halign : off % 4 = 0) (hoff : off ≤ 0xFC) (hcmd : off ≠ 0) (v : Word)
    (s : State) : perform (.write off 4 v) s = .next (regWrite off v s) := by
  rw [perform_write, if_pos ((accessAccepted_iff_le off 4).mpr ⟨rfl, halign, hoff⟩), busWrite, if_neg hcmd]

/-- Settles O8: a write at `CMD` is O5; any other is `regWrite`, whose register reads the written word
(`regRead_regWrite`) and which every other register does not show (`regRead_regWrite_other`). -/
theorem registerWriteRule : Obligations.RegisterWriteRule := by
  intro s t off v rest hpending halign hoff
  refine ⟨?command, fun hcmd => ?register⟩
  case command =>
    rintro rfl i hdecode
    exact stepRunsDecodedCommand s t v rest i hpending hdecode
  case register =>
    rw [step_pending hpending, perform_register_write halign hoff hcmd]
    exact ⟨_, rfl, regRead_regWrite off v _, fun other hne hview => regRead_regWrite_other hne hview v _,
      regWrite_keeps off v _⟩

end Sys2Proof.Machine
end

section
/-! What a scan takes from the front of its input (spec/44_parser.md R220): a scan that answers a unit has read a
fixed number of bytes, answers `Incomplete` when some of them are missing at the end, and reads nothing behind them.
Scans that run one after the other read their bytes one after the other (`Consumes.bind`). -/

namespace Sys2Proof.Machine

/-- The scan reads exactly the bytes `used`: with any `tail` behind them it answers `answer tail`, and when
some of them are missing at the end it answers `Incomplete` (R220). -/
def Consumes {α : Type} (scan : List Byte → Except ResultCode α) (used : List Byte) (answer : List Byte → α) : Prop :=
  (∀ tail, scan (used ++ tail) = .ok (answer tail)) ∧ ∀ k < used.length, scan (used.take k) = .error .incomplete

theorem Consumes.nil {α : Type} (answer : List Byte → α) : Consumes (fun w => .ok (answer w)) [] answer :=
  ⟨fun _ => rfl, nofun⟩

/-- A scan reads at least one byte if it answers `Incomplete` on nothing. -/
theorem Consumes.used_ne_nil {α : Type} {scan : List Byte → Except ResultCode α} {used : List Byte}
    {answer : List Byte → α} (h : Consumes scan used answer) {c : ResultCode} (hnil : scan [] = .error c) :
    used ≠ [] := by
  rintro rfl
  exact absurd ((h.1 []).symm.trans hnil) nofun

/-- A scan that first reads one byte whatever follows. -/
theorem Consumes.cons {α : Type} {scan next : List Byte → Except ResultCode α} {used : List Byte}
    {answer : List Byte → α} {b : Byte} (hnil : scan [] = .error .incomplete) (hcons : ∀ w, scan (b :: w) = next w)
    (h : Consumes next used answer) : Consumes scan (b :: used) answer := by
  obtain ⟨hwhole, hprefix⟩ := h
  refine ⟨fun tail => (hcons _).trans (hwhole tail), fun k hk => ?_⟩
  cases k with
  | zero => exact hnil
  | succ k => exact (hcons _).trans (hprefix k (Nat.lt_of_succ_lt_succ hk))

theorem Consumes.map {α β : Type} {scan : List Byte → Except ResultCode α} {used : List Byte}
    {answer : List Byte → α} (h : Consumes scan used answer) (f : α → β) :
    Consumes (fun w => (scan w).map f) used (f ∘ answer) :=
  ⟨fun tail => congrArg (Except.map f) (h.1 tail), fun k hk => congrArg (Except.map f) (h.2 k hk)⟩

/-- One scan behind another: `next` reads what `first` has left. -/
theorem Consumes.bind {α β : Type} {first : List Byte → Except ResultCode α} {next : List Byte → Except ResultCode β}
    {used1 used2 : List Byte} {answer1 : List Byte → α} {answer2 : List Byte → β} {f : α → Except ResultCode β}
    (h1 : Consumes first used1 answer1) (hnext : ∀ tail, f (answer1 tail) = next tail)
    (h2 : Consumes next used2 answer2) : Consumes (fun w => (first w).bind f) (used1 ++ used2) answer2 := by
  have hbehind (w : List Byte) : (first (used1 ++ w)).bind f = next w := by
    rw [h1.1, ← hnext]
    rfl
  refine ⟨fun tail => ?_, fun k hk => ?_⟩
  · dsimp only
    rw [List.append_assoc, hbehind, h2.1]
  · dsimp only
    rw [List.take_append]
    rcases Nat.lt_or_ge k used1.length with hlt | hge
    · rw [Nat.sub_eq_zero_of_le hlt.le, List.take_zero, List.append_nil, h1.2 k hlt]
      rfl
    · rw [List.length_append] at hk
      rw [List.take_of_length_le hge, hbehind, h2.2 _ (by omega)]

/-! ## Logical bytes (R229, R230) -/

theorem hexBytes_cons {b0 b1 : Byte} {d0 d1 : Nat} (h0 : hexval b0 = some d0) (h1 : hexval b1 = some d1) (n : Nat)
    (w : List Byte) : hexBytes (n + 1) (b0 :: b1 :: w) =
      (hexBytes n w).map fun p => (BitVec.ofNat 8 (16 * d0 + d1) :: p.1, p.2) := by
  cases hw : hexBytes n w <;> simp [hexBytes, h0, h1, hw, Except.map]

theorem hexBytes_consumes {n : Nat} {w l rest : List Byte} (h : hexBytes n w = .ok (l, rest)) :
    l.length = n ∧ ∃ used, w = used ++ rest ∧ Consumes (hexBytes n) used (fun tail => (l, tail)) := by
  fun_induction hexBytes n w generalizing l rest with
  | case1 w =>
    cases h
    exact ⟨rfl, [], rfl, Consumes.nil _⟩
  | case2 | case3 | case4 | case5 | case6 => cases h
  | case7 n b0 d0 h0 b1 w1 d1 h1 l' rest' hrest ih =>
    cases h
    obtain ⟨hlength, used, rfl, hused⟩ := ih hrest
    refine ⟨congrArg _ hlength, b0 :: b1 :: used, rfl, ?_⟩
    refine .cons rfl (next := fun w => hexBytes (n + 1) (b0 :: w)) (fun _ => rfl) (.cons ?_ (fun _ => ?_)
      (hused.map fun p => (BitVec.ofNat 8 (16 * d0 + d1) :: p.1, p.2)))
    · simp [hexBytes, h0]
    · exact hexBytes_cons h0 h1 n _

theorem unescNext_consumes {w rest : List Byte} {b : Byte} (h : unescNext w = .ok (b, rest)) :
    ∃ used, w = used ++ rest ∧ Consumes unescNext used (fun tail => (b, tail)) := by
  revert h
  fun_cases unescNext w with
  | case1 | case3 | case5 => nofun
  | case2 b' w1 hplain =>
    rintro ⟨⟩
    exact ⟨[b], rfl, .cons rfl (fun w => unescNext_plain w hplain) (Consumes.nil _)⟩
  | case4 b' hzdle c w2 hvalid =>
    rintro ⟨⟩
    obtain rfl := not_not.mp hzdle
    refine ⟨[Config.zdle, c], rfl, .cons rfl (next := fun w => unescNext (Config.zdle :: w)) (fun _ => rfl)
      (.cons rfl (fun w => unescNext_escape w hvalid) (Consumes.nil _))⟩

theorem unescBytes_succ (n : Nat) (w : List Byte) : unescBytes (n + 1) w =
    (unescNext w).bind fun p => (unescBytes n p.2).map fun q => (p.1 :: q.1, q.2) := by
  rw [unescBytes]
  cases unescNext w with
  | error c => rfl
  | ok p =>
    dsimp only [Except.bind]
    cases unescBytes n p.2 <;> rfl

theorem unescBytes_consumes {n : Nat} {w l rest : List Byte} (h : unescBytes n w = .ok (l, rest)) :
    l.length = n ∧ ∃ used, w = used ++ rest ∧ Consumes (unescBytes n) used (fun tail => (l, tail)) := by
  fun_induction unescBytes n w generalizing l rest with
  | case1 w =>
    cases h
    exact ⟨rfl, [], rfl, Consumes.nil _⟩
  | case2 | case3 => cases h
  | case4 n w b w1 hnext l' rest' hrest ih =>
    cases h
    obtain ⟨used1, rfl, hused1⟩ := unescNext_consumes hnext
    obtain ⟨hlength, used2, rfl, hused2⟩ := ih hrest
    refine ⟨congrArg _ hlength, used1 ++ used2, (List.append_assoc ..).symm, ?_⟩
    rw [funext (unescBytes_succ n)]
    exact hused1.bind (fun _ => rfl) (hused2.map fun q => (b :: q.1, q.2))

/-! ## Zmodem headers (R228 to R232) -/

/-- The scanned unit with other bytes behind it. -/
def ScannedHeader.before (u : ScannedHeader) (tail : List Byte) : ScannedHeader := { u with rest := tail }

theorem scanHeaderBody_hex (w : List Byte) : scanHeaderBody Config.zhexLetter w =
    (hexBytes 7 w).map fun p => scanned16 .hex p.1 p.2 := by
  rw [scanHeaderBody, if_pos rfl]
  cases hexBytes 7 w <;> rfl

theorem scanHeaderBody_bin16 (w : List Byte) : scanHeaderBody Config.zbin w =
    (unescBytes 7 w).map fun p => scanned16 .bin16 p.1 p.2 := by
  rw [scanHeaderBody, if_neg (by decide), if_pos rfl]
  cases unescBytes 7 w <;> rfl

theorem scanHeaderBody_bin32 (w : List Byte) : scanHeaderBody Config.zbin32Letter w =
    (unescBytes 9 w).map fun p => scanned32 p.1 p.2 := by
  rw [scanHeaderBody, if_neg (by decide), if_neg (by decide), if_pos rfl]
  cases unescBytes 9 w <;> rfl

theorem scanHeaderBody_consumes {e : Byte} {w : List Byte} {u : ScannedHeader} (h : scanHeaderBody e w = .ok u) :
    ∃ used, w = used ++ u.rest ∧ Consumes (scanHeaderBody e) used u.before := by
  revert h
  fun_cases scanHeaderBody e w with
  | case1 | case3 | case5 | case7 => nofun
  | case2 he l rest hbytes =>
    rintro ⟨⟩
    subst he
    obtain ⟨-, used, hw, hused⟩ := hexBytes_consumes hbytes
    rw [funext scanHeaderBody_hex]
    exact ⟨used, hw, hused.map _⟩
  | case4 _ he l rest hbytes =>
    rintro ⟨⟩
    subst he
    obtain ⟨-, used, hw, hused⟩ := unescBytes_consumes hbytes
    rw [funext scanHeaderBody_bin16]
    exact ⟨used, hw, hused.map _⟩
  | case6 _ _ he l rest hbytes =>
    rintro ⟨⟩
    subst he
    obtain ⟨-, used, hw, hused⟩ := unescBytes_consumes hbytes
    rw [funext scanHeaderBody_bin32]
    exact ⟨used, hw, hused.map _⟩

theorem scanAfterPads_letter (e : Byte) (w : List Byte) :
    scanAfterPads (Config.zdle :: e :: w) = scanHeaderBody e w := by
  simp [scanAfterPads]

theorem scanAfterPads_consumes {w : List Byte} {u : ScannedHeader} (h : scanAfterPads w = .ok u) :
    ∃ used, w = Config.zdle :: used ++ u.rest ∧ Consumes scanAfterPads (Config.zdle :: used) u.before := by
  revert h
  fun_cases scanAfterPads w with
  | case1 | case2 | case3 => nofun
  | case4 d hzdle e w2 =>
    intro h
    obtain rfl := not_not.mp hzdle
    obtain ⟨used, rfl, hused⟩ := scanHeaderBody_consumes h
    exact ⟨e :: used, rfl, .cons rfl (next := fun w => scanAfterPads (Config.zdle :: w)) (fun _ => rfl)
      (.cons rfl (scanAfterPads_letter e) hused)⟩

theorem scanHeader_zpad (w : List Byte) :
    scanHeader (Config.zpad :: w) = scanAfterPads ((Config.zpad :: w).dropWhile (· == Config.zpad)) := by
  rw [scanHeader, if_neg (not_not.mpr rfl)]

/-- All the pad bytes at the front are passed over (R228). -/
theorem scanHeader_pads (k : Nat) {w : List Byte} (hw : w.head? ≠ some Config.zpad) :
    scanHeader (List.replicate (k + 1) Config.zpad ++ w) = scanAfterPads w := by
  have hdrop : (List.replicate (k + 1) Config.zpad ++ w).dropWhile (· == Config.zpad) = w := by
    rw [List.dropWhile_append_of_pos (by simp)]
    cases w with
    | nil => rfl
    | cons b w => exact List.dropWhile_cons_of_neg (by simpa using hw)
  exact (scanHeader_zpad _).trans (congrArg scanAfterPads hdrop)

theorem scanHeader_only_pads (k : Nat) : scanHeader (List.replicate k Config.zpad) = .error .incomplete := by
  cases k with
  | zero => rfl
  | succ k => simpa [scanAfterPads] using scanHeader_pads k (w := []) (by simp)

theorem pads_split (w : List Byte) :
    ∃ k, w = List.replicate k Config.zpad ++ w.dropWhile (· == Config.zpad) := by
  refine ⟨(w.takeWhile (· == Config.zpad)).length, ?_⟩
  have hpads : w.takeWhile (· == Config.zpad) = List.replicate (w.takeWhile (· == Config.zpad)).length Config.zpad :=
    List.eq_replicate_iff.mpr ⟨rfl, fun b hb => eq_of_beq (List.mem_takeWhile_imp (p := (· == Config.zpad)) hb)⟩
  rw [← hpads, List.takeWhile_append_dropWhile]

theorem scanHeader_consumes {w : List Byte} {u : ScannedHeader} (h : scanHeader w = .ok u) :
    ∃ used, w = used ++ u.rest ∧ Consumes scanHeader used u.before := by
  revert h
  fun_cases scanHeader w with
  | case1 | case2 => nofun
  | case3 b w' hpad =>
    intro h
    obtain rfl := not_not.mp hpad
    obtain ⟨used, hw, hused⟩ := scanAfterPads_consumes h
    obtain ⟨k, hk⟩ := pads_split (Config.zpad :: w')
    rw [hw] at hk
    cases k with
    | zero => cases hk
    | succ k =>
      refine ⟨List.replicate (k + 1) Config.zpad ++ Config.zdle :: used, by rw [hk, List.append_assoc], ?_, ?_⟩
      · intro tail
        rw [List.append_assoc, scanHeader_pads k (by simp; decide)]
        exact hused.1 tail
      · intro j hj
        rw [List.take_append]
        rcases Nat.lt_or_ge (k + 1) j with hlt | hge
        · have hhead : ((Config.zdle :: used).take (j - (k + 1))).head? ≠ some Config.zpad := by
            rw [List.head?_take]
            split <;> simp
            decide
          rw [List.take_of_length_le (by simp; omega), List.length_replicate, scanHeader_pads k hhead]
          exact hused.2 _ (by simp at hj ⊢; omega)
        · rw [List.length_replicate, Nat.sub_eq_zero_of_le hge, List.take_zero, List.append_nil, List.take_replicate]
          exact scanHeader_only_pads _

/-! ## Zmodem data subpackets (R233) -/

theorem scanPayload_plain {b : Byte} (hb : b ≠ Config.zdle) {n : Nat} (hn : n ≠ Config.rxpCap) (w : List Byte) :
    scanPayload n (b :: w) = consPayload b (scanPayload (n + 1) w) := by
  rw [scanPayload.eq_def n (b :: w)]
  exact (if_neg hb).trans (if_neg hn)

theorem scanPayload_escape {c : Byte} (hmarker : isMarker c = false) (hvalid : validEscape c = true) {n : Nat}
    (hn : n ≠ Config.rxpCap) (w : List Byte) : scanPayload n (Config.zdle :: c :: w) =
      consPayload (c ^^^ Config.escXor) (scanPayload (n + 1) w) := by
  rw [scanPayload, if_pos rfl]
  simp only [hmarker, hvalid, if_neg hn, Bool.false_eq_true, if_false, if_true]

theorem scanPayload_marker {c : Byte} (hmarker : isMarker c = true) (n : Nat) (w : List Byte) :
    scanPayload n (Config.zdle :: c :: w) = .ok ([], c, w) := by
  rw [scanPayload, if_pos rfl]
  exact if_pos hmarker

theorem scanPayload_only_zdle (n : Nat) : scanPayload n [Config.zdle] = .error .incomplete := by
  rw [scanPayload, if_pos rfl]

theorem consPayload_eq_map (b : Byte) (x : Except ResultCode (List Byte × Byte × List Byte)) :
    consPayload b x = x.map fun p => (b :: p.1, p.2) := by
  cases x <;> rfl

theorem scanPayload_consumes {n : Nat} {w d rest : List Byte} {m : Byte} (hn : n ≤ Config.rxpCap)
    (h : scanPayload n w = .ok (d, m, rest)) : n + d.length ≤ Config.rxpCap ∧ isMarker m = true
      ∧ ∃ used, w = used ++ rest ∧ Consumes (scanPayload n) used (fun tail => (d, m, tail)) := by
  fun_induction scanPayload n w generalizing d rest with
  | case1 | case2 | case4 | case6 | case7 => cases h
  | case3 n c w1 hmarker =>
    cases h
    exact ⟨hn, hmarker, [Config.zdle, m], rfl, .cons rfl (next := fun w => scanPayload n (Config.zdle :: w))
      (fun _ => rfl) (.cons (scanPayload_only_zdle n) (scanPayload_marker hmarker n) (Consumes.nil _))⟩
  | case5 n c w1 hmarker hvalid hfull ih =>
    obtain ⟨d', hd', rfl⟩ := consPayload_ok h
    obtain ⟨hlength, hm, used, rfl, hused⟩ := ih (by omega) hd'
    refine ⟨by rw [List.length_cons]; omega, hm, Config.zdle :: c :: used, rfl,
      .cons rfl (next := fun w => scanPayload n (Config.zdle :: w)) (fun _ => rfl)
        (.cons (scanPayload_only_zdle n) (fun w => ?_) (hused.map fun p => ((c ^^^ Config.escXor) :: p.1, p.2)))⟩
    rw [scanPayload_escape (Bool.eq_false_iff.mpr hmarker) hvalid hfull, consPayload_eq_map]
  | case8 n b w hplain hfull ih =>
    obtain ⟨d', hd', rfl⟩ := consPayload_ok h
    obtain ⟨hlength, hm, used, rfl, hused⟩ := ih (by omega) hd'
    refine ⟨by rw [List.length_cons]; omega, hm, b :: used, rfl,
      .cons rfl (fun w => ?_) (hused.map fun p => (b :: p.1, p.2))⟩
    rw [scanPayload_plain hplain hfull, consPayload_eq_map]

/-- The scanned unit with other bytes behind it. -/
def ScannedData.before (u : ScannedData) (tail : List Byte) : ScannedData := { u with rest := tail }

/-- The subpacket of a payload, a marker and the check bytes of either width (R208, R233). -/
def subpacketOf (wide : Bool) (d : List Byte) (m : Byte) (cb rest : List Byte) : ScannedData :=
  { payload := d, marker := m
    computed := if wide then crc32 (d ++ [m]) else (crc16 (d ++ [m]) Config.crc16Init).setWidth 32
    received := if wide then crc32Received cb else crc16Received cb
    rest }

/-- The number of check bytes of a subpacket (R208). -/
def subpacketCrcLength (wide : Bool) : Nat := if wide then 4 else 2

theorem scanData_eq_bind (wide : Bool) (w : List Byte) : scanData wide w =
    (scanPayload 0 w).bind fun p =>
      (unescBytes (subpacketCrcLength wide) p.2.2).map fun q => subpacketOf wide p.1 p.2.1 q.1 q.2 := by
  rw [scanData]
  cases scanPayload 0 w with
  | error c => rfl
  | ok p =>
    cases wide with
    | false =>
      simp only [Except.bind, subpacketCrcLength, if_false, Bool.false_eq_true]
      cases unescBytes 2 p.2.2 <;> rfl
    | true =>
      simp only [Except.bind, subpacketCrcLength, if_true]
      cases unescBytes 4 p.2.2 <;> rfl

theorem scanData_consumes {wide : Bool} {w : List Byte} {u : ScannedData} (h : scanData wide w = .ok u) :
    u.payload.length ≤ Config.rxpCap ∧ isMarker u.marker = true
      ∧ ∃ used, w = used ++ u.rest ∧ Consumes (scanData wide) used u.before := by
  rw [scanData_eq_bind] at h
  rw [funext (scanData_eq_bind wide)]
  cases hp : scanPayload 0 w with
  | error c => rw [hp] at h; cases h
  | ok p =>
    obtain ⟨d, m, w1⟩ := p
    obtain ⟨hlength, hm, used1, rfl, hused1⟩ := scanPayload_consumes (Nat.zero_le _) hp
    cases hq : unescBytes (subpacketCrcLength wide) w1 with
    | error c => rw [hp] at h; simp [Except.bind, Except.map, hq] at h
    | ok q =>
      obtain ⟨cb, rest⟩ := q
      obtain ⟨-, used2, rfl, hused2⟩ := unescBytes_consumes hq
      rw [hp] at h
      simp only [Except.bind, Except.map, hq] at h
      cases h
      refine ⟨by simpa [subpacketOf] using hlength, hm, used1 ++ used2, (List.append_assoc ..).symm, ?_⟩
      exact hused1.bind (fun _ => rfl) (hused2.map fun q => subpacketOf wide d m q.1 q.2)

/-! ## Xmodem-shaped blocks (R222) -/

/-- The scanned unit with other bytes behind it. -/
def ScannedBlock.before (u : ScannedBlock) (tail : List Byte) : ScannedBlock := { u with rest := tail }

/-- Enough bytes for a block are a header, a payload, a trailer and what follows. -/
theorem block_split {v : XVariant} {w : List Byte} (h : blockLength v ≤ w.length) :
    ∃ b num comp p tr rest, w = [b, num, comp] ++ p ++ tr ++ rest ∧ p.length = blockSize v
      ∧ tr.length = trailerLength v := by
  rw [blockLength] at h
  match w with
  | [] | [_] | [_, _] =>
    simp only [List.length_cons, List.length_nil] at h
    omega
  | b :: num :: comp :: w =>
    simp only [List.length_cons] at h
    refine ⟨b, num, comp, w.take (blockSize v), (w.drop (blockSize v)).take (trailerLength v),
      (w.drop (blockSize v)).drop (trailerLength v), ?_, ?_, ?_⟩
    · rw [List.append_assoc, List.append_assoc, List.take_append_drop, List.take_append_drop]
      rfl
    · rw [List.length_take]; omega
    · rw [List.length_take, List.length_drop]; omega

theorem scanBlock_consumes {v : XVariant} {w : List Byte} {u : ScannedBlock} (h : scanBlock v w = .ok u) :
    ∃ used, w = used ++ u.rest ∧ Consumes (scanBlock v) used u.before := by
  obtain ⟨hlength, -⟩ := scanBlock_ok h
  obtain ⟨b, num, comp, p, tr, rest, rfl, hp, htr⟩ := block_split hlength
  by_cases hb : b = blockMarker v
  · subst hb
    have hwhole (tail : List Byte) := scanBlock_present num comp tail hp htr
    by_cases hcomp : comp = 255 - num
    · rw [hwhole, if_pos hcomp] at h
      cases h
      refine ⟨[blockMarker v, num, comp] ++ p ++ tr, rfl, fun tail => (hwhole tail).trans (if_pos hcomp), ?_⟩
      intro k hk
      have hused : ([blockMarker v, num, comp] ++ p ++ tr).length = blockLength v := by
        simp only [List.length_append, List.length_cons, List.length_nil, hp, htr, blockLength]
      cases k with
      | zero => exact scanBlock_nil v
      | succ k =>
        refine scanBlock_short (rest := (num :: comp :: p ++ tr).take k) ?_
        rw [hused] at hk
        simp only [List.length_cons, List.length_take]
        omega
    · rw [hwhole, if_neg hcomp] at h
      cases h
  · exact absurd ((scanBlock_wrongMarker _ hb).symm.trans h) nofun

end Sys2Proof.Machine
end

section
/-! The four parser commands said once (spec/44_parser.md R220): what the command makes of `CFG` and `IBUF` is a
`Parse`, and the state it ends in follows from that alone. So a parser reads nothing else, and consumes exactly the
bytes its scan has read. -/

namespace Sys2Proof.Machine

/-! ## What a parser command finds, and what it does with it -/

/-- The result registers a parser command writes on `Ok` (R222, R224, R232, R233). -/
inductive Report where
  /-- The number of an Xmodem block. -/
  | block (number : Byte)
  /-- What a block 0 says. -/
  | metadata (f : Yb0Fields)
  /-- A Zmodem header's type, encoding and four bytes. -/
  | header (ztype : BitVec 5) (enc : ZEncoding) (bytes : Word)
  /-- The marker selector of a subpacket. -/
  | subpacket (zend : BitVec 2)

def Report.write : Report → State → State
  | .block number, s => { s with rxDesc := { s.rxDesc with blk := number } }
  | .metadata f, s => setYb0 f s
  | .header ztype enc bytes, s => { s with rxDesc := { s.rxDesc with ztype := ztype, zenc := enc }, rxZhdr := bytes }
  | .subpacket zend, s => { s with rxDesc := { s.rxDesc with zend := zend } }

/-- What a parser command finds at the front of `IBUF`. -/
inductive Parse where
  /-- A fault in front of the comparison. -/
  | fault (c : ResultCode)
  /-- A fault at or behind the comparison of the two check values. -/
  | compared (c : ResultCode) (computed received : Word)
  /-- A sound unit: its registers, its payload if the command has one, and the bytes behind it. -/
  | unit (computed received : Word) (report : Report) (payload : Option (List Byte)) (rest : List Byte)

/-- `RXP` becomes the payload, if there is one. -/
def putPayload : Option (List Byte) → State → State
  | none, s => s
  | some d, s => { s with rxp := d }

/-- The code a parse ends in. -/
def Parse.code : Parse → ResultCode
  | .fault c | .compared c _ _ => c
  | .unit .. => .ok

/-- What a parse makes of the state before the status update. -/
def Parse.effect : Parse → State → State
  | .fault _, s => s
  | .compared _ a b, s => setCheckValues a b s
  | .unit a b report payload rest, s =>
    { putPayload payload (report.write (setCheckValues a b s)) with ibuf := rest }

/-- The parse of a scan, by the command's judgement of what was scanned. -/
def judged {α : Type} (verdict : α → Parse) : Except ResultCode α → Parse
  | .error c => .fault c
  | .ok u => verdict u

def blockVerdict (v : XVariant) (u : ScannedBlock) : Parse :=
  if u.computed ≠ u.received then .compared (mismatchCode v) u.computed u.received
  else .unit u.computed u.received (.block u.number) (some u.payload) u.rest

def metadataVerdict (u : ScannedBlock) : Parse :=
  if u.computed ≠ u.received then .compared .crcMismatch u.computed u.received
  else if u.number ≠ 0 then .compared .invalidBlockHeader u.computed u.received
  else .unit u.computed u.received (.metadata (yb0Fields u.payload)) (some u.payload) u.rest

def headerVerdict (u : ScannedHeader) : Parse :=
  if u.computed ≠ u.received then .compared .crcMismatch u.computed u.received
  else if (byteAt u.logical 0).toNat > Config.maxFrameType then .compared .invalidFrameType u.computed u.received
  else .unit u.computed u.received
    (.header ((byteAt u.logical 0).setWidth 5) u.enc
      (wordOf (byteAt u.logical 4) (byteAt u.logical 3) (byteAt u.logical 2) (byteAt u.logical 1)))
    none u.rest

def subpacketVerdict (u : ScannedData) : Parse :=
  if u.computed ≠ u.received then .compared .crcMismatch u.computed u.received
  else .unit u.computed u.received (.subpacket ((u.marker - Config.markerBase).setWidth 2)) (some u.payload) u.rest

/-- The parse of a parser command, from `CFG` and `IBUF`. -/
def parse (i : Instr) (g : Cfg) (w : List Byte) : Parse :=
  match i with
  | .fpXblk => judged (blockVerdict g.xvar) (scanBlock g.xvar w)
  | .fpYb0 => judged metadataVerdict (scanBlock .crc w)
  | .fpZhdr => judged headerVerdict (scanHeader w)
  | .fpZdat => judged subpacketVerdict (scanData g.zcrcw w)
  | _ => .fault .incomplete

/-- The four commands end as their parse says. -/
theorem exec_parser {i : Instr} (hi : isParser i = true) (s : State) :
    exec i s = finish i (parse i s.cfg s.ibuf).code ((parse i s.cfg s.ibuf).effect s) := by
  cases i <;> try contradiction
  case fpXblk =>
    rw [exec, execFpXblk, parse]
    cases scanBlock s.cfg.xvar s.ibuf with
    | error c => rfl
    | ok u =>
      dsimp only [judged, blockVerdict]
      split <;> rfl
  case fpYb0 =>
    rw [exec, execFpYb0, parse]
    cases scanBlock .crc s.ibuf with
    | error c => rfl
    | ok u =>
      dsimp only [judged, metadataVerdict]
      split
      · rfl
      · split <;> rfl
  case fpZhdr =>
    rw [exec, execFpZhdr, parse]
    cases scanHeader s.ibuf with
    | error c => rfl
    | ok u =>
      dsimp only [judged, headerVerdict]
      split
      · rfl
      · split <;> rfl
  case fpZdat =>
    rw [exec, execFpZdat, parse]
    cases scanData s.cfg.zcrcw s.ibuf with
    | error c => rfl
    | ok u =>
      dsimp only [judged, subpacketVerdict]
      split <;> rfl

/-! ## The codes and registers of a parse (R272, and the "written by" clauses of R38 to R41) -/

/-- The registers a report writes. -/
def Report.registers : Report → List Nat
  | .block _ | .subpacket _ => [0x44]
  | .metadata _ => [0x44, 0x4C, 0x50, 0x54, 0x58]
  | .header .. => [0x44, 0x48]

theorem ok_not_mem_otherCodes (i : Instr) : .ok ∉ otherCodes i := by
  cases i <;> simp [otherCodes]

/-- A parse ends in a code of the command's row, or with a unit whose report and payload are the command's. -/
def Parse.OfRow (i : Instr) : Parse → Prop
  | .fault c | .compared c _ _ => c ∈ otherCodes i
  | .unit _ _ report payload _ => report.registers ⊆ ownRegisters i ∧ (payload.isSome = true → changesRxp i = true)

theorem ofRow_compared {i : Instr} {c : ResultCode} {a b : Word} (h : c ∈ otherCodes i) :
    (Parse.compared c a b).OfRow i := h

theorem ofRow_unit {i : Instr} {a b : Word} {report : Report} {payload : Option (List Byte)} {rest : List Byte}
    (hregs : report.registers ⊆ ownRegisters i) (hrxp : payload.isSome = true → changesRxp i = true) :
    (Parse.unit a b report payload rest).OfRow i := ⟨hregs, hrxp⟩

theorem judged_ofRow {α : Type} {i : Instr} {verdict : α → Parse} {x : Except ResultCode α}
    (herror : ∀ c, x = .error c → c ∈ otherCodes i) (hverdict : ∀ u, (verdict u).OfRow i) :
    (judged verdict x).OfRow i := by
  cases x with
  | error c => exact herror c rfl
  | ok u => exact hverdict u

theorem ofRow_ite {p : Prop} [Decidable p] {i : Instr} {a b : Parse} (ha : a.OfRow i) (hb : b.OfRow i) :
    (if p then a else b).OfRow i := by
  split
  · exact ha
  · exact hb

theorem parse_ofRow (i : Instr) (hi : isParser i = true) (g : Cfg) (w : List Byte) : (parse i g w).OfRow i := by
  cases i <;> try contradiction
  case fpXblk =>
    refine judged_ofRow (fun c hc => ?_) fun u => ofRow_ite ?_ (ofRow_unit (by simp [Report.registers, ownRegisters])
      fun _ => rfl)
    · rcases scanBlock_error hc with rfl | rfl | rfl <;> decide
    · exact ofRow_compared (by cases g.xvar <;> decide)
  case fpYb0 =>
    refine judged_ofRow (fun c hc => ?_) fun u => ofRow_ite (ofRow_compared (by decide))
      (ofRow_ite (ofRow_compared (by decide)) (ofRow_unit (by simp [Report.registers, ownRegisters]) fun _ => rfl))
    rcases scanBlock_error hc with rfl | rfl | rfl <;> decide
  case fpZhdr =>
    have hscan : ∀ c ∈ [ResultCode.incomplete, .invalidFrameEncoding, .invalidEscape], c ∈ otherCodes .fpZhdr := by
      decide
    exact judged_ofRow (fun c hc => hscan c (scanHeader_error hc)) fun u => ofRow_ite (ofRow_compared (by decide))
      (ofRow_ite (ofRow_compared (by decide)) (ofRow_unit (by simp [Report.registers, ownRegisters]) nofun))
  case fpZdat =>
    have hscan : ∀ c ∈ [ResultCode.incomplete, .invalidEscape, .overrun], c ∈ otherCodes .fpZdat := by decide
    exact judged_ofRow (fun c hc => hscan c (scanData_error hc)) fun u => ofRow_ite (ofRow_compared (by decide))
      (ofRow_unit (by simp [Report.registers, ownRegisters]) fun _ => rfl)

/-- A parser command that ends `Ok` has found a unit. -/
theorem parse_unit_of_ok {i : Instr} (hi : isParser i = true) {g : Cfg} {w : List Byte}
    (hok : (parse i g w).code = .ok) :
    ∃ a b report payload rest, parse i g w = .unit a b report payload rest := by
  have hcodes := parse_ofRow i hi g w
  cases hparse : parse i g w with
  | unit a b report payload rest => exact ⟨a, b, report, payload, rest, rfl⟩
  | fault c | compared c =>
    rw [hparse] at hcodes hok
    obtain rfl : c = .ok := hok
    exact absurd hcodes (ok_not_mem_otherCodes i)

/-! ## A unit is exactly consumed (R220) -/

/-- A parser that finds a unit in `w` has read a fixed front of it. -/
def ReadsFront (parser : List Byte → Parse) (w : List Byte) : Prop :=
  ∀ a b report payload rest, parser w = .unit a b report payload rest →
    ∃ used, used ≠ [] ∧ w = used ++ rest ∧ (∀ tail, parser (used ++ tail) = .unit a b report payload tail)
      ∧ ∀ k < used.length, parser (used.take k) = .fault .incomplete

/-- A judgement that passes the rest of the input on does not look at it. -/
theorem judged_readsFront {α : Type} {scan : List Byte → Except ResultCode α} {verdict : α → Parse}
    {restOf : α → List Byte} {before : α → List Byte → α} {w : List Byte} {c : ResultCode}
    (hnil : scan [] = .error c)
    (hscan : ∀ u, scan w = .ok u → ∃ used, w = used ++ restOf u ∧ Consumes scan used (before u))
    (hverdict : ∀ u a b report payload rest, verdict u = .unit a b report payload rest →
      restOf u = rest ∧ ∀ tail, verdict (before u tail) = .unit a b report payload tail) :
    ReadsFront (fun w => judged verdict (scan w)) w := by
  intro a b report payload rest hunit
  dsimp only at hunit
  cases hw : scan w with
  | error c => rw [hw] at hunit; cases hunit
  | ok u =>
    rw [hw] at hunit
    obtain ⟨used, hsplit, hused⟩ := hscan u hw
    obtain ⟨rfl, hbefore⟩ := hverdict u _ _ _ _ _ hunit
    exact ⟨used, hused.used_ne_nil hnil, hsplit,
      fun tail => (congrArg (judged verdict) (hused.1 tail)).trans (hbefore tail),
      fun k hk => congrArg (judged verdict) (hused.2 k hk)⟩

theorem blockVerdict_unit {v : XVariant} {u : ScannedBlock} {a b : Word} {report : Report}
    {payload : Option (List Byte)} {rest : List Byte} (h : blockVerdict v u = .unit a b report payload rest) :
    u.rest = rest ∧ ∀ tail, blockVerdict v (u.before tail) = .unit a b report payload tail := by
  rw [blockVerdict] at h
  split at h
  · cases h
  · next heq =>
    cases h
    exact ⟨rfl, fun tail => if_neg heq⟩

theorem metadataVerdict_unit {u : ScannedBlock} {a b : Word} {report : Report} {payload : Option (List Byte)}
    {rest : List Byte} (h : metadataVerdict u = .unit a b report payload rest) :
    u.rest = rest ∧ ∀ tail, metadataVerdict (u.before tail) = .unit a b report payload tail := by
  rw [metadataVerdict] at h
  split at h
  · cases h
  · next heq =>
    split at h
    · cases h
    · next hnum =>
      cases h
      exact ⟨rfl, fun tail => (if_neg heq).trans (if_neg hnum)⟩

theorem headerVerdict_unit {u : ScannedHeader} {a b : Word} {report : Report} {payload : Option (List Byte)}
    {rest : List Byte} (h : headerVerdict u = .unit a b report payload rest) :
    u.rest = rest ∧ ∀ tail, headerVerdict (u.before tail) = .unit a b report payload tail := by
  rw [headerVerdict] at h
  split at h
  · cases h
  · next heq =>
    split at h
    · cases h
    · next htype =>
      cases h
      exact ⟨rfl, fun tail => (if_neg heq).trans (if_neg htype)⟩

theorem subpacketVerdict_unit {u : ScannedData} {a b : Word} {report : Report} {payload : Option (List Byte)}
    {rest : List Byte} (h : subpacketVerdict u = .unit a b report payload rest) :
    u.rest = rest ∧ ∀ tail, subpacketVerdict (u.before tail) = .unit a b report payload tail := by
  rw [subpacketVerdict] at h
  split at h
  · cases h
  · next heq =>
    cases h
    exact ⟨rfl, fun tail => if_neg heq⟩

theorem parse_readsFront {i : Instr} (hi : isParser i = true) (g : Cfg) (w : List Byte) :
    ReadsFront (parse i g) w := by
  cases i <;> try contradiction
  case fpXblk =>
    exact judged_readsFront (scanBlock_nil _) (fun u => scanBlock_consumes) fun u _ _ _ _ _ => blockVerdict_unit
  case fpYb0 =>
    exact judged_readsFront (scanBlock_nil _) (fun u => scanBlock_consumes) fun u _ _ _ _ _ => metadataVerdict_unit
  case fpZhdr =>
    exact judged_readsFront (scan := scanHeader) rfl (fun u => scanHeader_consumes) fun u _ _ _ _ _ =>
      headerVerdict_unit
  case fpZdat =>
    exact judged_readsFront (scan := scanData g.zcrcw) rfl
      (fun u h => (scanData_consumes h).2.2) fun u _ _ _ _ _ => subpacketVerdict_unit

/-- Settles O51: the parse of the command decides its end (`exec_parser`), and it reads a fixed front of `IBUF`
(`parse_readsFront`). -/
theorem parsedUnitIsExactlyConsumed : Obligations.ParsedUnitIsExactlyConsumed := by
  intro i s t hi hexec hok
  rw [exec_parser hi] at hexec
  obtain ⟨hcode, -⟩ := finish_cases hexec
  obtain ⟨a, b, report, payload, rest, hunit⟩ := parse_unit_of_ok hi (hcode.symm.trans hok)
  obtain ⟨used, hne, hibuf, hwhole, hprefix⟩ := parse_readsFront hi s.cfg s.ibuf a b report payload rest hunit
  rw [hunit] at hexec
  obtain rfl := Host.Outcome.next.inj hexec
  have htake : s.ibuf.take used.length = used := by rw [hibuf, List.take_left]
  refine ⟨used.length, List.length_pos_iff.mpr hne, by rw [hibuf]; simp, by rw [hibuf, List.drop_left]; rfl,
    fun k hk => ?_, fun tail => ?_⟩
  · have hk' : s.ibuf.take k = used.take k := by rw [hibuf, List.take_append_of_le_length hk.le]
    rw [exec_parser hi, hk', hprefix k hk, Parse.code, finish_other _ _ _ (by decide)]
    rfl
  · rw [htake, exec_parser hi, hwhole tail]
    cases payload <;> cases report <;> rfl

/-! ## What a parser command reads (R220) -/

/-- The update shows in the registers as a mask of kept bits and a word, the same from every state. -/
def Masked (f : State → State) : Prop :=
  ∃ keep val : Nat → Word, ∀ (s : State) (off : Nat), regRead off (f s) = regRead off s &&& keep off ||| val off

theorem Masked.id : Masked fun s => s :=
  ⟨fun _ => BitVec.allOnes 32, fun _ => 0#32, fun s off => by rw [BitVec.and_allOnes, BitVec.or_zero]⟩

theorem Masked.comp {f g : State → State} (hg : Masked g) (hf : Masked f) : Masked fun s => g (f s) := by
  obtain ⟨keepF, valF, hf⟩ := hf
  obtain ⟨keepG, valG, hg⟩ := hg
  refine ⟨fun off => keepF off &&& keepG off, fun off => valF off &&& keepG off ||| valG off, fun s off => ?_⟩
  rw [hg, hf, BitVec.and_or_distrib_right, BitVec.and_assoc, BitVec.or_assoc]

/-- An update that one register shows. -/
theorem masked_of_register {f : State → State} (o : Nat) (keep val : Word)
    (hown : ∀ s, regRead o (f s) = regRead o s &&& keep ||| val)
    (hother : ∀ off, off ≠ o → ∀ s, regRead off (f s) = regRead off s) : Masked f := by
  refine ⟨fun off => if off = o then keep else BitVec.allOnes 32, fun off => if off = o then val else 0#32,
    fun s off => ?_⟩
  dsimp only
  split
  · next h => rw [h, hown]
  · next h => rw [hother off h, BitVec.and_allOnes, BitVec.or_zero]

/-- An update that writes one register over. -/
theorem masked_of_overwrite {f : State → State} (o : Nat) (val : Word) (hown : ∀ s, regRead o (f s) = val)
    (hother : ∀ off, off ≠ o → ∀ s, regRead off (f s) = regRead off s) : Masked f :=
  masked_of_register o 0#32 val (fun s => by rw [hown, BitVec.and_zero, BitVec.zero_or]) hother

theorem masked_statusUpdate (w : Word) (c : ResultCode) : Masked (statusUpdate w c) := by
  have hresult : Masked fun s => { s with result := c } :=
    masked_of_overwrite 0x04 ((codeNumber c).setWidth 32) (fun _ => rfl) fun _ h => regRead_set_result h c
  have hflags : Masked fun s => { s with errflags := flagsAfter c s.errflags } := by
    refine masked_of_register 0x08 (BitVec.allOnes 32) (flagsAfter c 0#32 &&& errflagsAssigned) (fun s => ?_)
      fun _ h s => regRead_set_errflags h _ s
    show flagsAfter c s.errflags &&& errflagsAssigned = _
    rw [BitVec.and_allOnes, flagsAfter, flagsAfter]
    split
    · rw [BitVec.zero_and, BitVec.or_zero]
      rfl
    · rw [BitVec.zero_or, BitVec.and_or_distrib_right]
      rfl
  have hinfo : Masked fun s => { s with errinfo := if c = .ok then s.errinfo else w } := by
    by_cases hc : c = .ok
    · simp only [hc, if_true]
      exact Masked.id
    · simp only [if_neg hc]
      exact masked_of_overwrite 0x0C w (fun _ => rfl) fun _ h => regRead_set_errinfo h w
  exact hinfo.comp (hflags.comp hresult)

theorem masked_setCheckValues (a b : Word) : Masked (setCheckValues a b) := by
  have hcalc : Masked fun s => { s with rxCrcCalc := a } :=
    masked_of_overwrite 0x5C a (fun _ => rfl) fun _ h => regRead_set_rxCrcCalc h a
  have hrcvd : Masked fun s => { s with rxCrcRcvd := b } :=
    masked_of_overwrite 0x60 b (fun _ => rfl) fun _ h => regRead_set_rxCrcRcvd h b
  exact hrcvd.comp hcalc

/-- An update of `RX_DESC`'s fields, given as masks of its word's parts. -/
theorem masked_rxDesc {f : RxDesc → RxDesc} (keep val : Word)
    (h : ∀ d, rxDescWord (f d) = rxDescWord d &&& keep ||| val) : Masked fun s => { s with rxDesc := f s.rxDesc } :=
  masked_of_register 0x44 keep val (fun s => h s.rxDesc) fun _ hoff s => regRead_set_rxDesc hoff _ s

theorem append_masked {m n : Nat} {x x' k v : BitVec m} {y y' l u : BitVec n} (hx : x' = x &&& k ||| v)
    (hy : y' = y &&& l ||| u) : x' ++ y' = (x ++ y) &&& (k ++ l) ||| (v ++ u) := by
  rw [BitVec.and_append, BitVec.or_append, ← hx, ← hy]

theorem field_kept {n : Nat} (x : BitVec n) : x = x &&& BitVec.allOnes n ||| 0#n := by
  rw [BitVec.and_allOnes, BitVec.or_zero]

theorem field_written {n : Nat} (x x' : BitVec n) : x' = x &&& 0#n ||| x' := by
  rw [BitVec.and_zero, BitVec.zero_or]

/-- The fields of `RX_DESC` that a block 0 sets (R224). -/
def metadataDesc (f : Yb0Fields) (d : RxDesc) : RxDesc :=
  { d with
    blk := 0, yeob := f.eob, ysizeP := decide (0 < f.numbers.length), ymtimeP := decide (1 < f.numbers.length)
    ymodeP := decide (2 < f.numbers.length), yovf := yb0Overflow f }

theorem masked_metadataDesc (f : Yb0Fields) : Masked fun s => { s with rxDesc := metadataDesc f s.rxDesc } := by
  have hovf (d : RxDesc) := append_masked (field_kept 0#3) (field_written (bit d.yovf) (bit (yb0Overflow f)))
  have hmode (d : RxDesc) :=
    append_masked (hovf d) (field_written (bit d.ymodeP) (bit (decide (2 < f.numbers.length))))
  have hmtime (d : RxDesc) :=
    append_masked (hmode d) (field_written (bit d.ymtimeP) (bit (decide (1 < f.numbers.length))))
  have hsize (d : RxDesc) :=
    append_masked (hmtime d) (field_written (bit d.ysizeP) (bit (decide (0 < f.numbers.length))))
  have heob (d : RxDesc) := append_masked (hsize d) (field_written (bit d.yeob) (bit f.eob))
  have hzend (d : RxDesc) := append_masked (append_masked (heob d) (field_kept 0#2)) (field_kept d.zend)
  have hzenc (d : RxDesc) := append_masked (append_masked (hzend d) (field_kept 0#2)) (field_kept (zencBits d.zenc))
  have hztype (d : RxDesc) := append_masked (append_masked (hzenc d) (field_kept 0#3)) (field_kept d.ztype)
  exact masked_rxDesc _ _ fun d => append_masked (hztype d) (field_written d.blk 0#8)

theorem masked_metadata (f : Yb0Fields) : Masked (setYb0 f) := by
  have hnlen : Masked fun s => { s with rxYnlen := BitVec.ofNat 8 f.nlen } :=
    masked_of_overwrite 0x58 ((BitVec.ofNat 8 f.nlen).setWidth 32) (fun _ => rfl) fun _ h => regRead_set_rxYnlen h _
  have hsize : Masked fun s => { s with rxYsize := yb0Value f 0 } :=
    masked_of_overwrite 0x4C _ (fun _ => rfl) fun _ h => regRead_set_rxYsize h _
  have hmtime : Masked fun s => { s with rxYmtime := yb0Value f 1 } :=
    masked_of_overwrite 0x50 _ (fun _ => rfl) fun _ h => regRead_set_rxYmtime h _
  have hmode : Masked fun s => { s with rxYmode := yb0Value f 2 } :=
    masked_of_overwrite 0x54 _ (fun _ => rfl) fun _ h => regRead_set_rxYmode h _
  exact hmode.comp (hmtime.comp (hsize.comp (hnlen.comp (masked_metadataDesc f))))

theorem masked_report (report : Report) : Masked report.write := by
  cases report with
  | block number =>
    exact masked_rxDesc (f := fun d => { d with blk := number }) _ _ fun d =>
      append_masked (field_kept _) (field_written _ number)
  | metadata f => exact masked_metadata f
  | header ztype enc bytes =>
    have hdesc : Masked fun s => { s with rxDesc := { s.rxDesc with ztype := ztype, zenc := enc } } :=
      masked_rxDesc (f := fun d => { d with ztype := ztype, zenc := enc }) _ _ fun d =>
        append_masked (append_masked (append_masked (append_masked (field_kept _)
          (field_written _ (zencBits enc))) (field_kept _)) (field_written _ ztype)) (field_kept _)
    have hbytes : Masked fun s => { s with rxZhdr := bytes } :=
      masked_of_overwrite 0x48 bytes (fun _ => rfl) fun _ h => regRead_set_rxZhdr h bytes
    exact hbytes.comp hdesc
  | subpacket zend =>
    exact masked_rxDesc (f := fun d => { d with zend := zend }) _ _ fun d =>
      append_masked (append_masked (append_masked (append_masked (append_masked (append_masked (field_kept _)
        (field_written _ zend)) (field_kept _)) (field_kept _)) (field_kept _)) (field_kept _)) (field_kept _)

theorem masked_ibuf (w : List Byte) : Masked fun s => { s with ibuf := w } :=
  masked_of_register 0x64 _ _ (fun _ => append_masked (field_kept _) (field_written _ (BitVec.ofNat 16 w.length)))
    fun _ hoff s => regRead_set_ibuf hoff w s

theorem masked_putPayload (payload : Option (List Byte)) : Masked (putPayload payload) := by
  cases payload with
  | none => exact Masked.id
  | some d =>
    exact masked_of_register 0x68 _ _
      (fun _ => append_masked (field_written _ (BitVec.ofNat 16 d.length)) (field_kept _))
      fun _ hoff s => regRead_set_rxp hoff d s

theorem masked_parse (p : Parse) : Masked p.effect := by
  cases p with
  | fault c => exact Masked.id
  | compared c a b => exact masked_setCheckValues a b
  | unit a b report payload rest =>
    exact (masked_ibuf rest).comp ((masked_putPayload payload).comp ((masked_report report).comp
      (masked_setCheckValues a b)))

/-- The bytes a parse leaves in `IBUF`. -/
def Parse.left (w : List Byte) : Parse → List Byte
  | .fault _ | .compared .. => w
  | .unit _ _ _ _ rest => rest

/-- The payload a parse puts into `RXP`. -/
def Parse.got : Parse → Option (List Byte)
  | .fault _ | .compared .. => none
  | .unit _ _ _ payload _ => payload

theorem Parse.effect_buffers (p : Parse) (s : State) : (p.effect s).ibuf = p.left s.ibuf
    ∧ (p.effect s).rxp = p.got.getD s.rxp ∧ (p.effect s).obuf = s.obuf ∧ (p.effect s).txp = s.txp := by
  cases p with
  | fault | compared => exact ⟨rfl, rfl, rfl, rfl⟩
  | unit a b report payload rest => cases payload <;> cases report <;> exact ⟨rfl, rfl, rfl, rfl⟩

/-- A parse reaches neither `ZSTATE` nor the host's side of the bus. -/
theorem Parse.effect_zstate (p : Parse) (s : State) : (p.effect s).zstate = s.zstate := by
  cases p with
  | fault | compared => rfl
  | unit a b report payload rest =>
    cases payload <;> cases report <;> simp [Parse.effect, putPayload, Report.write]

theorem Parse.effect_bus (p : Parse) (s : State) :
    (p.effect s).now = s.now ∧ (p.effect s).pending = s.pending ∧ (p.effect s).readData = s.readData := by
  cases p with
  | fault | compared => exact ⟨rfl, rfl, rfl⟩
  | unit a b report payload rest =>
    cases payload <;> cases report <;> simp [Parse.effect, putPayload, Report.write]

/-- Settles O23: the parse depends on `IBUF` and `CFG` alone (`exec_parser`); its effect and the status update show in
the registers as masks (`masked_parse`, `masked_statusUpdate`) and reach none of the other units' registers. -/
theorem parserReadsOnlyItsInputs : Obligations.ParserReadsOnlyItsInputs := by
  refine ⟨fun i w g hi => ?_, fun i s lo hi raw z k c x o hparser => ?_⟩
  · obtain ⟨keep, val, hmask⟩ :=
      (masked_statusUpdate (encode i) (parse i g w).code).comp (masked_parse (parse i g w))
    refine ⟨(parse i g w).code, (parse i g w).left w, (parse i g w).got, keep, val, ?_⟩
    rintro s rfl rfl
    obtain ⟨hibuf, hrxp, hobuf, htxp⟩ := (parse i s.cfg s.ibuf).effect_buffers s
    exact ⟨_, exec_parser hi s, rfl, hibuf, hrxp, hobuf, htxp, hmask s⟩
  · rw [exec_parser hparser, exec_parser hparser]
    dsimp only
    cases parse i s.cfg s.ibuf with
    | fault | compared => rfl
    | unit a b report payload rest => cases payload <;> cases report <;> rfl

end Sys2Proof.Machine
end

section
/-! What a command can do, said once: `Effect s i c u` lists the states `u` that the command `i` can make of `s` before
its status update with the code `c`, by the kind of what it writes. The frames, the outcome codes and the invariant
are read off its cases. -/

namespace Sys2Proof.Machine

/-! ## The kinds of effect -/

/-- The part of the invariant on `RT_STAT` (R256). -/
def RtStat.Inv (r : RtStat) : Prop :=
  (r.exh = true → r.armed = false ∧ r.cnt ≠ 0) ∧ (r.exh = false → r.cnt.toNat < 65535)

/-- What the command `i` makes of the state `s`, with its outcome code. -/
inductive Effect (s : State) : Instr → ResultCode → State → Prop where
  /-- Nothing but the report. -/
  | report {i : Instr} (c : ResultCode) (hc : c = .ok ∨ c ∈ otherCodes i) : Effect s i c s
  /-- The block's reset (R132). -/
  | reset : Effect s .srst .ok (resetBlock s)
  /-- The host's changes of `IBUF` (R133 to R136). -/
  | input {i : Instr} (w : List Byte) (hregs : ownRegisters i = [0x64]) (hibuf : changesIbuf i = true)
      (hparser : isParser i = false) (hroom : s.ibuf.length ≤ 4096 → w.length ≤ 4096) :
      Effect s i .ok { s with ibuf := w }
  /-- An emission (R144). -/
  | emission {i : Instr} (w : List Byte) (hemits : emits i = true) (hroom : s.obuf.length + w.length ≤ 4096) :
      Effect s i .ok (emit w s)
  /-- OB.POP of a byte (R142). -/
  | obPop (b : Byte) (rest : List Byte) (hobuf : s.obuf = b :: rest) :
      Effect s .obPop .ok { s with odata := b, obuf := rest }
  /-- OB.CLR (R143). -/
  | obClr : Effect s .obClr .ok { s with obuf := [] }
  /-- The host's changes of `TXP` (R137, R138). -/
  | payload {i : Instr} (w : List Byte) (hregs : ownRegisters i = [0x68]) (htxp : changesTxp i = true)
      (hroom : s.txp.length ≤ 1024 → w.length ≤ 1024) : Effect s i .ok { s with txp := w }
  /-- RP.POP of a byte (R139). -/
  | rpPop (b : Byte) (rest : List Byte) (hrxp : s.rxp = b :: rest) :
      Effect s .rpPop .ok { s with rdata := b, rxp := rest }
  /-- RP.CLR (R140). -/
  | rpClr : Effect s .rpClr .ok { s with rxp := [] }
  /-- The sum (R160 to R162). -/
  | ck8 {i : Instr} (v : Byte) (hregs : ownRegisters i = [0x1C]) : Effect s i .ok { s with ck8 := v }
  /-- The CRC-16 (R163 to R165). -/
  | crc16 {i : Instr} (v : Half) (hregs : ownRegisters i = [0x20]) : Effect s i .ok { s with crc16 := v }
  /-- The CRC-32 (R166 to R168). -/
  | crc32 {i : Instr} (v : Word) (hregs : ownRegisters i = [0x24, 0x28]) : Effect s i .ok { s with crc32Raw := v }
  /-- ZE.RST (R174). -/
  | zeRst : Effect s .zeRst .ok { s with zstate := { s.zstate with zeLast := 0x00 } }
  /-- ZD.RST (R178). -/
  | zdRst : Effect s .zdRst .ok { s with zstate := { s.zstate with zdPend := false } }
  /-- ZD.PUT (R179). -/
  | zdPut (b : Byte) (r : List Byte) (pend : Bool) (hroom : s.rxp.length ≤ 1024 → r.length ≤ 1024) :
      Effect s (.zdPut b) .ok { s with rxp := r, zstate := { s.zstate with zdPend := pend } }
  /-- ZD.BUF (R181). -/
  | zdBuf (r : List Byte) (hroom : r.length ≤ 1024) : Effect s .zdBuf .ok { s with rxp := r, ibuf := [] }
  /-- A parser command (R220). -/
  | parser {i : Instr} (hparser : isParser i = true) :
      Effect s i (parse i s.cfg s.ibuf).code ((parse i s.cfg s.ibuf).effect s)
  /-- RT.RST and RT.ARM (R251, R252). -/
  | deadline {i : Instr} (r : RtStat) (dl : Time) (hregs : ownRegisters i = [0x7C, 0x80, 0x84])
      (hinv : s.rtStat.Inv → r.Inv) : Effect s i .ok { s with rtStat := r, rtDl := dl }
  /-- RT.OK and the counted failures (R253 to R256). -/
  | counter {i : Instr} (c : ResultCode) (r : RtStat) (hregs : ownRegisters i = [0x7C])
      (hc : c = .ok ∨ c ∈ otherCodes i) (hinv : s.rtStat.Inv → r.Inv) : Effect s i c { s with rtStat := r }

/-- The result of the command `i` in the state `s` is the status update of one of its effects. -/
def HasEffect (s : State) (i : Instr) (r : Result) : Prop := ∃ c u, Effect s i c u ∧ r = finish i c u

theorem Effect.result {s u : State} {i : Instr} {c : ResultCode} (h : Effect s i c u) : HasEffect s i (finish i c u) :=
  ⟨c, u, h, rfl⟩

theorem hasEffect_ite {p : Prop} [Decidable p] {s : State} {i : Instr} {a b : Result}
    (ha : p → HasEffect s i a) (hb : ¬ p → HasEffect s i b) : HasEffect s i (if p then a else b) := by
  split
  · next h => exact ha h
  · next h => exact hb h

/-- A command that ends at once in a code of its row. -/
theorem hasEffect_report {s : State} {i : Instr} {c : ResultCode} (hc : c = .ok ∨ c ∈ otherCodes i) :
    HasEffect s i (finish i c s) := (Effect.report c hc).result

theorem hasEffect_finishEmit {s : State} {i : Instr} (w : List Byte) (hemits : emits i = true)
    (hfull : .bufferFull ∈ otherCodes i) : HasEffect s i (finishEmit i w s) :=
  hasEffect_ite (fun _ => hasEffect_report (.inr hfull)) fun h => (Effect.emission w hemits (Nat.not_lt.mp h)).result

/-! ## The retry counter's part of the invariant (R251 to R256) -/

theorem RtStat.Inv.of_remaining {r : RtStat} (hexh : r.exh = false) (hcnt : r.cnt.toNat < 65535) : r.Inv :=
  ⟨fun h => absurd (hexh.symm.trans h) (by decide), fun _ => hcnt⟩

theorem bump_inv (max : Half) {r : RtStat} (hexh : r.exh = false) (h : r.Inv) : (bump max r).Inv := by
  have hcnt := h.2 hexh
  have hnext : (r.cnt + 1).toNat = r.cnt.toNat + 1 := by
    rw [BitVec.toNat_add, show (1 : Half).toNat = 1 from rfl, Nat.mod_eq_of_lt (by omega)]
  rcases Nat.lt_or_ge (r.cnt + 1).toNat max.toNat with hbelow | hreaches
  · rw [bump_below hexh hbelow]
    exact .of_remaining rfl (by have := max.isLt; dsimp only; omega)
  · rw [bump_reaches hreaches]
    refine ⟨fun _ => ⟨rfl, fun hzero => ?_⟩, nofun⟩
    dsimp only at hzero
    rw [hzero] at hnext
    contradiction

theorem hasEffect_finishBump {s : State} {i : Instr} {c : ResultCode} (hregs : ownRegisters i = [0x7C])
    (hc : c = .ok ∨ c ∈ otherCodes i) (hmax : .maxRetriesExceeded ∈ otherCodes i) (hexh : ¬ s.rtStat.exh = true) :
    HasEffect s i (finishBump i c s) := by
  refine (Effect.counter _ _ hregs ?_ (bump_inv s.rtMax (Bool.eq_false_iff.mpr hexh))).result
  split
  · exact .inr hmax
  · exact hc

/-! ## Every command has one of the effects -/

theorem hasEffect_exhausted {s : State} {i : Instr} {r : Result} (hmax : .maxRetriesExceeded ∈ otherCodes i)
    (hr : ¬ s.rtStat.exh = true → HasEffect s i r) :
    HasEffect s i (if s.rtStat.exh then finish i .maxRetriesExceeded s else r) :=
  hasEffect_ite (fun _ => hasEffect_report (.inr hmax)) hr

theorem execObPop_hasEffect (s : State) : HasEffect s .obPop (execObPop s) := by
  unfold execObPop
  split
  · exact hasEffect_report (.inr (by decide))
  · next b rest hobuf => exact (Effect.obPop b rest hobuf).result

theorem execRpPop_hasEffect (s : State) : HasEffect s .rpPop (execRpPop s) := by
  unfold execRpPop
  split
  · exact hasEffect_report (.inr (by decide))
  · next b rest hrxp => exact (Effect.rpPop b rest hrxp).result

theorem execZdPut_hasEffect (b : Byte) (s : State) : HasEffect s (.zdPut b) (execZdPut b s) := by
  unfold execZdPut
  split
  · next herr =>
    obtain ⟨-, -, rfl⟩ := zdStep_error herr
    exact hasEffect_report (.inr List.mem_cons_self)
  · exact (Effect.zdPut b s.rxp _ fun h => h).result
  · next out pend _ =>
    refine hasEffect_ite (fun _ => hasEffect_report (.inr (List.mem_cons_of_mem _ List.mem_cons_self)))
      fun hroom => (Effect.zdPut b (s.rxp ++ [out]) pend fun h => ?_).result
    rw [Config.rxpCap] at hroom
    rw [List.length_append, List.length_singleton]
    omega

theorem execZdBuf_hasEffect (s : State) : HasEffect s .zdBuf (execZdBuf s) := by
  unfold execZdBuf
  split
  · next herr =>
    rw [zdec_error herr]
    exact hasEffect_report (.inr (by decide))
  · exact hasEffect_ite (fun _ => hasEffect_report (.inr (by decide))) fun h =>
      (Effect.zdBuf _ (Nat.not_lt.mp h)).result

theorem execFsYeob_hasEffect (s : State) : HasEffect s .fsYeob (execFsYeob s) := by
  unfold execFsYeob
  exact hasEffect_finishEmit _ rfl (by decide)

theorem exec_hasEffect (i : Instr) (s : State) : HasEffect s i (exec i s) := by
  cases i with
  | nop => exact hasEffect_report (.inl rfl)
  | srst => exact Effect.reset.result
  | ibPush b =>
    refine hasEffect_ite (fun _ => hasEffect_report (.inr List.mem_cons_self))
      fun hroom => (Effect.input _ rfl rfl rfl fun h => ?_).result
    rw [Config.ibufCap] at hroom
    rw [List.length_append, List.length_singleton]
    omega
  | ibClr => exact (Effect.input [] rfl rfl rfl fun _ => Nat.zero_le _).result
  | ibDrop n => exact (Effect.input _ rfl rfl rfl ((List.drop_sublist _ _).length_le.trans)).result
  | ibHunt => exact (Effect.input _ rfl rfl rfl ((List.dropWhile_sublist _).length_le.trans)).result
  | obPop => exact execObPop_hasEffect s
  | obClr => exact Effect.obClr.result
  | tpPush b =>
    refine hasEffect_ite (fun _ => hasEffect_report (.inr List.mem_cons_self))
      fun hroom => (Effect.payload _ rfl rfl fun h => ?_).result
    rw [Config.txpCap] at hroom
    rw [List.length_append, List.length_singleton]
    omega
  | tpClr => exact (Effect.payload [] rfl rfl fun _ => Nat.zero_le _).result
  | rpPop => exact execRpPop_hasEffect s
  | rpClr => exact Effect.rpClr.result
  | ck8Init | ck8Upd | ck8Buf => exact (Effect.ck8 _ rfl).result
  | c16Init | c16Upd | c16Buf => exact (Effect.crc16 _ rfl).result
  | c32Init | c32Upd | c32Buf => exact (Effect.crc32 _ rfl).result
  | zeRst => exact Effect.zeRst.result
  | obPush | zePut => exact hasEffect_finishEmit _ rfl List.mem_cons_self
  | zeBuf | fsZdat => exact hasEffect_finishEmit _ rfl (by decide)
  | zdRst => exact Effect.zdRst.result
  | zdPut b => exact execZdPut_hasEffect b s
  | zdEnd =>
    exact hasEffect_ite (fun _ => hasEffect_report (.inr (by decide))) fun _ => hasEffect_report (.inl rfl)
  | zdBuf => exact execZdBuf_hasEffect s
  | fsXblk | fsZhdr =>
    exact hasEffect_ite (fun _ => hasEffect_report (.inr (by decide)))
      fun _ => hasEffect_finishEmit _ rfl (by decide)
  | fsYb0 =>
    exact hasEffect_ite (fun _ => hasEffect_report (.inr (by decide)))
      fun _ => hasEffect_ite (fun _ => hasEffect_report (.inr (by decide)))
        fun _ => hasEffect_finishEmit _ rfl (by decide)
  | fsYeob => exact execFsYeob_hasEffect s
  | fpXblk | fpYb0 | fpZhdr | fpZdat => exact ⟨_, _, .parser rfl, exec_parser rfl s⟩
  | rtRst => exact (Effect.deadline _ 0 rfl fun _ => .of_remaining rfl (by decide)).result
  | rtArm =>
    refine hasEffect_exhausted (by decide) fun hexh => (Effect.deadline _ _ rfl fun h => ?_).result
    have hremaining := Bool.eq_false_iff.mpr hexh
    exact .of_remaining hremaining (h.2 hremaining)
  | rtOk =>
    exact hasEffect_exhausted (by decide) fun hexh =>
      (Effect.counter .ok { s.rtStat with cnt := 0, armed := false } rfl (.inl rfl) fun _ =>
        .of_remaining (Bool.eq_false_iff.mpr hexh) (by decide : (0 : Nat) < 65535)).result
  | rtFail =>
    exact hasEffect_exhausted (by decide) fun hexh => hasEffect_finishBump rfl (.inl rfl) (by decide) hexh
  | rtPoll =>
    exact hasEffect_exhausted (by decide) fun hexh =>
      hasEffect_ite (fun _ => hasEffect_report (.inl rfl)) fun _ =>
        hasEffect_ite (fun _ => hasEffect_report (.inl rfl)) fun _ =>
          hasEffect_finishBump rfl (.inr (by decide)) (by decide) hexh

/-- What is known of a command that has answered. -/
theorem effect_of_exec {i : Instr} {s t : State} (h : exec i s = .next t) :
    ∃ c u, Effect s i c u ∧ t = statusUpdate (encode i) c u := by
  obtain ⟨c, u, heffect, hfinish⟩ := exec_hasEffect i s
  exact ⟨c, u, heffect, Host.Outcome.next.inj (h.symm.trans hfinish)⟩

/-! ## Outcome codes (R272) -/

theorem Effect.code {s u : State} {i : Instr} {c : ResultCode} (h : Effect s i c u) : c = .ok ∨ c ∈ otherCodes i := by
  cases h with
  | report c hc | counter c r _ hc => exact hc
  | parser hparser =>
    have hcodes := parse_ofRow i hparser s.cfg s.ibuf
    cases hparse : parse i s.cfg s.ibuf with
    | fault c | compared c =>
      rw [hparse] at hcodes
      exact .inr hcodes
    | unit => exact .inl rfl
  | _ => exact .inl rfl

/-- Settles O15: the command has one of the effects (`exec_hasEffect`), each with a code of its row
(`Effect.code`). -/
theorem outcomeCodesOfEachCommand : Obligations.OutcomeCodesOfEachCommand := by
  intro i s t hexec
  obtain ⟨c, u, heffect, rfl⟩ := effect_of_exec hexec
  exact heffect.code

/-! ## The register frame (R30 to R47) -/

theorem regRead_statusUpdate {off : Nat} (h : off ∉ [0x04, 0x08, 0x0C]) (w : Word) (c : ResultCode) (s : State) :
    regRead off (statusUpdate w c s) = regRead off s := by
  simp only [List.mem_cons, List.not_mem_nil, or_false, not_or] at h
  obtain ⟨hresult, hflags, hinfo⟩ := h
  exact (regRead_set_errinfo hinfo _ _).trans
    ((regRead_set_errflags hflags _ _).trans (regRead_set_result hresult _ _))

theorem ownRegisters_of_emits {i : Instr} (h : emits i = true) : ownRegisters i = [0x2C, 0x64] := by
  revert h
  cases i <;> simp [emits, ownRegisters]

theorem ne_of_not_own {i : Instr} {off a : Nat} (hregs : ownRegisters i = [a]) (h : off ∉ ownRegisters i) :
    off ≠ a := by
  rwa [hregs, List.mem_singleton] at h

theorem ne_of_not_own_pair {i : Instr} {off a b : Nat} (hregs : ownRegisters i = [a, b])
    (h : off ∉ ownRegisters i) : off ≠ a ∧ off ≠ b := by
  rwa [hregs, List.mem_pair, not_or] at h

theorem regRead_setCheckValues {off : Nat} (hcalc : off ≠ 0x5C) (hrcvd : off ≠ 0x60) (a b : Word) (s : State) :
    regRead off (setCheckValues a b s) = regRead off s :=
  (regRead_set_rxCrcRcvd hrcvd b { s with rxCrcCalc := a }).trans (regRead_set_rxCrcCalc hcalc a s)

theorem regRead_report {report : Report} {off : Nat} (h : off ∉ report.registers) (s : State) :
    regRead off (report.write s) = regRead off s := by
  cases report with
  | block | subpacket => exact regRead_set_rxDesc (by simpa [Report.registers] using h) _ s
  | metadata f =>
    simp only [Report.registers, List.mem_cons, List.not_mem_nil, or_false, not_or] at h
    obtain ⟨hdesc, hsize, hmtime, hmode, hnlen⟩ := h
    have h1 := regRead_set_rxDesc hdesc (metadataDesc f s.rxDesc) s
    have h2 := regRead_set_rxYnlen hnlen (BitVec.ofNat 8 f.nlen) { s with rxDesc := metadataDesc f s.rxDesc }
    have h3 := (regRead_set_rxYsize hsize (yb0Value f 0) _).trans (h2.trans h1)
    have h4 := (regRead_set_rxYmtime hmtime (yb0Value f 1) _).trans h3
    exact (regRead_set_rxYmode hmode (yb0Value f 2) _).trans h4
  | header ztype enc bytes =>
    simp only [Report.registers, List.mem_cons, List.not_mem_nil, or_false, not_or] at h
    obtain ⟨hdesc, hbytes⟩ := h
    exact (regRead_set_rxZhdr hbytes bytes _).trans (regRead_set_rxDesc hdesc { s.rxDesc with ztype, zenc := enc } s)

theorem ownRegisters_of_parser {i : Instr} (h : isParser i = true) : [0x5C, 0x60, 0x64] ⊆ ownRegisters i := by
  revert h
  cases i <;> simp [isParser, ownRegisters]

theorem ownRegisters_of_parser_rxp {i : Instr} (h : isParser i = true) (hrxp : changesRxp i = true) :
    0x68 ∈ ownRegisters i := by
  revert h hrxp
  cases i <;> simp [isParser, changesRxp, ownRegisters]

theorem regRead_parse {i : Instr} (hi : isParser i = true) {p : Parse} (hp : p.OfRow i) {off : Nat}
    (hoff : off ∉ ownRegisters i) (s : State) : regRead off (p.effect s) = regRead off s := by
  have hown := mt (@ownRegisters_of_parser i hi off) hoff
  simp only [List.mem_cons, List.not_mem_nil, or_false, not_or] at hown
  obtain ⟨hcalc, hrcvd, hibuf⟩ := hown
  cases p with
  | fault c => rfl
  | compared c a b => exact regRead_setCheckValues hcalc hrcvd a b s
  | unit a b report payload rest =>
    obtain ⟨hregs, hrxp⟩ := hp
    have hreport := (regRead_report (fun h => hoff (hregs h)) (setCheckValues a b s)).trans
      (regRead_setCheckValues hcalc hrcvd a b s)
    cases payload with
    | none => exact (regRead_set_ibuf hibuf rest _).trans hreport
    | some d =>
      have hrxp' : off ≠ 0x68 := fun h => hoff (h ▸ ownRegisters_of_parser_rxp hi (hrxp rfl))
      exact (regRead_set_ibuf hibuf rest _).trans ((regRead_set_rxp hrxp' d _).trans hreport)

/-- An effect shows at no register but the command's own. -/
theorem Effect.registers {s u : State} {i : Instr} {c : ResultCode} (h : Effect s i c u) (hi : i ≠ .srst) {off : Nat}
    (hoff : off ∉ ownRegisters i) : regRead off u = regRead off s := by
  cases h with
  | report => rfl
  | reset => contradiction
  | input w hregs => exact regRead_set_ibuf (ne_of_not_own hregs hoff) w s
  | emission w hemits =>
    obtain ⟨hzstate, hobuf⟩ := ne_of_not_own_pair (ownRegisters_of_emits hemits) hoff
    exact (regRead_set_zstate hzstate { s.zstate with zeLast := w.getLastD s.zstate.zeLast }
      { s with obuf := s.obuf ++ w }).trans (regRead_set_obuf hobuf (s.obuf ++ w) s)
  | obPop b rest =>
    obtain ⟨hobuf, hodata⟩ := ne_of_not_own_pair (i := .obPop) rfl hoff
    exact (regRead_set_obuf hobuf rest { s with odata := b }).trans (regRead_set_odata hodata b s)
  | obClr => exact regRead_set_obuf (ne_of_not_own (i := .obClr) rfl hoff) [] s
  | payload w hregs => exact regRead_set_txp (ne_of_not_own hregs hoff) w s
  | rpPop b rest =>
    obtain ⟨hrxp, hrdata⟩ := ne_of_not_own_pair (i := .rpPop) rfl hoff
    exact (regRead_set_rxp hrxp rest { s with rdata := b }).trans (regRead_set_rdata hrdata b s)
  | rpClr => exact regRead_set_rxp (ne_of_not_own (i := .rpClr) rfl hoff) [] s
  | ck8 v hregs => exact regRead_set_ck8 (ne_of_not_own hregs hoff) v s
  | crc16 v hregs => exact regRead_set_crc16 (ne_of_not_own hregs hoff) v s
  | crc32 v hregs =>
    obtain ⟨hraw, hout⟩ := ne_of_not_own_pair hregs hoff
    exact regRead_set_crc32Raw hraw hout v s
  | zeRst => exact regRead_set_zstate (ne_of_not_own (i := .zeRst) rfl hoff) _ s
  | zdRst => exact regRead_set_zstate (ne_of_not_own (i := .zdRst) rfl hoff) _ s
  | zdPut b r pend =>
    obtain ⟨hzstate, hrxp⟩ := ne_of_not_own_pair (i := .zdPut b) rfl hoff
    exact (regRead_set_zstate hzstate { s.zstate with zdPend := pend } { s with rxp := r }).trans
      (regRead_set_rxp hrxp r s)
  | zdBuf r =>
    obtain ⟨hibuf, hrxp⟩ := ne_of_not_own_pair (i := .zdBuf) rfl hoff
    exact (regRead_set_ibuf hibuf [] { s with rxp := r }).trans (regRead_set_rxp hrxp r s)
  | parser hparser => exact regRead_parse hparser (parse_ofRow i hparser _ _) hoff s
  | deadline r dl hregs =>
    simp only [hregs, List.mem_cons, List.not_mem_nil, or_false, not_or] at hoff
    obtain ⟨hstat, hlow, hhigh⟩ := hoff
    exact (regRead_set_rtDl hlow hhigh dl { s with rtStat := r }).trans (regRead_set_rtStat hstat r s)
  | counter c r hregs => exact regRead_set_rtStat (ne_of_not_own hregs hoff) r s

/-- Which commands change the two fields of `ZSTATE` (R34). -/
theorem Effect.zstate {s u : State} {i : Instr} {c : ResultCode} (h : Effect s i c u) (hi : i ≠ .srst) :
    (changesZdPend i = false → u.zstate.zdPend = s.zstate.zdPend)
    ∧ (emits i = false → i ≠ .zeRst → u.zstate.zeLast = s.zstate.zeLast) := by
  cases h with
  | reset => contradiction
  | emission w hemits => exact ⟨fun _ => rfl, fun h => absurd (hemits.symm.trans h) (by decide)⟩
  | zeRst => exact ⟨fun _ => rfl, fun _ h => absurd rfl h⟩
  | zdRst => exact ⟨nofun, fun _ _ => rfl⟩
  | zdPut => exact ⟨nofun, fun _ _ => rfl⟩
  | parser hparser => rw [Parse.effect_zstate]; exact ⟨fun _ => rfl, fun _ _ => rfl⟩
  | _ => exact ⟨fun _ => rfl, fun _ _ => rfl⟩

/-- Settles O17: the status update shows at the three error registers only (`regRead_statusUpdate`), and the effect
at the command's own (`Effect.registers`, `Effect.zstate`). -/
theorem commandsChangeOnlyTheirRegisters : Obligations.CommandsChangeOnlyTheirRegisters := by
  intro i s t hexec hi
  obtain ⟨c, u, heffect, rfl⟩ := effect_of_exec hexec
  exact ⟨fun off hstatus hoff => (regRead_statusUpdate hstatus _ c u).trans (heffect.registers hi hoff),
    heffect.zstate hi⟩

/-! ## The buffer frame (R60 to R63) -/

/-- No effect reaches the host's side of the bus. -/
theorem Effect.keeps_bus {s u : State} {i : Instr} {c : ResultCode} (h : Effect s i c u) :
    u.now = s.now ∧ u.pending = s.pending ∧ u.readData = s.readData := by
  cases h with
  | parser => exact Parse.effect_bus _ s
  | _ => exact ⟨rfl, rfl, rfl⟩

theorem changesIbuf_of_parser {i : Instr} (h : isParser i = true) : changesIbuf i = true := by
  revert h
  cases i <;> simp [isParser, changesIbuf]

theorem changesObuf_of_emits {i : Instr} (h : emits i = true) : changesObuf i = true := by
  rw [changesObuf, h, Bool.true_or, Bool.true_or]

/-- A parse puts a payload into `RXP` only for a command that has one. -/
theorem Parse.got_eq_none {i : Instr} {p : Parse} (hp : p.OfRow i) (hrxp : changesRxp i = false) : p.got = none := by
  cases p with
  | fault | compared => rfl
  | unit a b report payload rest =>
    obtain ⟨-, hsome⟩ := hp
    cases payload with
    | none => rfl
    | some d => exact absurd (hrxp.symm.trans (hsome rfl)) (by decide)

theorem Parse.left_suffix {i : Instr} (hi : isParser i = true) (g : Cfg) (w : List Byte) :
    (parse i g w).left w <:+ w := by
  cases hparse : parse i g w with
  | fault | compared => exact List.suffix_rfl
  | unit a b report payload rest =>
    obtain ⟨used, -, hw, -⟩ := parse_readsFront hi g w a b report payload rest hparse
    exact ⟨used, hw.symm⟩

theorem absurd_false_of_true {b : Bool} {p : Prop} (h : b = true) : b = false → p :=
  fun h' => absurd (h.symm.trans h') (by decide)

/-- An effect on a buffer is one of a command that the buffer's rule names. -/
theorem Effect.keeps_buffers {s u : State} {i : Instr} {c : ResultCode} (h : Effect s i c u) (hi : i ≠ .srst) :
    (changesIbuf i = false → u.ibuf = s.ibuf) ∧ (changesObuf i = false → u.obuf = s.obuf)
    ∧ (changesTxp i = false → u.txp = s.txp) ∧ (changesRxp i = false → u.rxp = s.rxp) := by
  cases h with
  | reset => contradiction
  | input w hregs hibuf => exact ⟨absurd_false_of_true hibuf, fun _ => rfl, fun _ => rfl, fun _ => rfl⟩
  | emission w hemits =>
    exact ⟨fun _ => rfl, absurd_false_of_true (changesObuf_of_emits hemits), fun _ => rfl, fun _ => rfl⟩
  | obPop | obClr => exact ⟨fun _ => rfl, absurd_false_of_true rfl, fun _ => rfl, fun _ => rfl⟩
  | payload w hregs htxp => exact ⟨fun _ => rfl, fun _ => rfl, absurd_false_of_true htxp, fun _ => rfl⟩
  | rpPop | rpClr | zdPut => exact ⟨fun _ => rfl, fun _ => rfl, fun _ => rfl, absurd_false_of_true rfl⟩
  | zdBuf => exact ⟨absurd_false_of_true rfl, fun _ => rfl, fun _ => rfl, absurd_false_of_true rfl⟩
  | parser hparser =>
    obtain ⟨-, hrxp, hobuf, htxp⟩ := (parse i s.cfg s.ibuf).effect_buffers s
    refine ⟨absurd_false_of_true (changesIbuf_of_parser hparser), fun _ => hobuf, fun _ => htxp, fun hnone => ?_⟩
    rw [hrxp, Parse.got_eq_none (parse_ofRow i hparser _ _) hnone]
    rfl
  | _ => exact ⟨fun _ => rfl, fun _ => rfl, fun _ => rfl, fun _ => rfl⟩

/-- A parser command and ZD.BUF only remove bytes from the front of `IBUF`. -/
theorem Effect.ibuf_suffix {s u : State} {i : Instr} {c : ResultCode} (h : Effect s i c u)
    (hi : isParser i = true ∨ i = .zdBuf) : u.ibuf <:+ s.ibuf := by
  cases h with
  | reset | zdBuf => exact List.nil_suffix
  | input w hregs hibuf hparser =>
    rcases hi with hi | rfl
    · exact absurd_false_of_true hi hparser
    · contradiction
  | parser hparser =>
    obtain ⟨hibuf, -⟩ := (parse i s.cfg s.ibuf).effect_buffers s
    rw [hibuf]
    exact Parse.left_suffix hparser s.cfg s.ibuf
  | _ => exact List.suffix_rfl

/-- A command that emits only appends to `OBUF`. -/
theorem Effect.obuf_prefix {s u : State} {i : Instr} {c : ResultCode} (h : Effect s i c u) (hi : emits i = true) :
    s.obuf <+: u.obuf := by
  cases h with
  | reset | obPop | obClr => contradiction
  | emission w => exact List.prefix_append s.obuf w
  | parser =>
    obtain ⟨-, -, hobuf, -⟩ := (parse i s.cfg s.ibuf).effect_buffers s
    rw [hobuf]
  | _ => exact List.prefix_rfl

/-- Settles O18: the effect's cases, buffer by buffer; the status update reaches no buffer. -/
theorem commandsChangeOnlyTheirBuffers : Obligations.CommandsChangeOnlyTheirBuffers := by
  intro i s t hexec
  obtain ⟨c, u, heffect, rfl⟩ := effect_of_exec hexec
  refine ⟨fun hi => ?_, heffect.keeps_bus⟩
  obtain ⟨hibuf, hobuf, htxp, hrxp⟩ := heffect.keeps_buffers hi
  exact ⟨hibuf, hobuf, htxp, hrxp, heffect.ibuf_suffix, heffect.obuf_prefix⟩

/-! ## A host of accepted accesses (R277) -/

theorem exec_pending {i : Instr} {s t : State} (h : exec i s = .next t) : t.pending = s.pending := by
  obtain ⟨c, u, heffect, rfl⟩ := effect_of_exec h
  exact heffect.keeps_bus.2.1

theorem runCommand_pending {w : Word} {s t : State} (h : runCommand w s = .next t) : t.pending = s.pending := by
  rw [runCommand] at h
  split at h
  · exact exec_pending h
  · cases h
    rfl

theorem busWrite_pending {off : Nat} {v : Word} {s t : State} (h : busWrite off v s = .next t) :
    t.pending = s.pending := by
  rw [busWrite] at h
  split at h
  · exact runCommand_pending h
  · cases h
    obtain ⟨-, -, -, -, -, hpending, -⟩ := regWrite_keeps off v s
    exact hpending

/-- An accepted event answers a next state and leaves the list of pending actions. -/
theorem perform_accepted {e : HostEvent} (h : eventAccepted e = true) (s : State) :
    ∃ t, perform e s = .next t ∧ t.pending = s.pending := by
  cases e with
  | read off bytes =>
    rw [eventAccepted, decide_eq_true_iff, ← accessAccepted_iff_le] at h
    exact ⟨_, if_pos h, rfl⟩
  | write off bytes v =>
    rw [eventAccepted, decide_eq_true_iff, ← accessAccepted_iff_le] at h
    obtain ⟨t, ht⟩ := busWrite_next off v s
    exact ⟨t, (if_pos h).trans ht, busWrite_pending ht⟩
  | reset => exact ⟨resetBlock s, rfl, rfl⟩

theorem step_hostOk {s : State} (h : HostOk s) : ∃ t, step s = .next t ∧ HostOk t := by
  cases hpending : s.pending with
  | nil => exact ⟨s, step_idle hpending, h⟩
  | cons a rest =>
    rw [HostOk, hpending, List.forall_mem_cons] at h
    obtain ⟨ha, hrest⟩ := h
    obtain ⟨t, ht, hkeeps⟩ := perform_accepted ha { s with now := a.time, pending := rest }
    exact ⟨t, (step_pending hpending).trans ht, by rwa [HostOk, hkeeps]⟩

theorem core_run_succ {s t : State} (h : step s = .next t) (k : Nat) : core.run (k + 1) s = core.run k t := by
  have hcore : core.step s = .next t := h
  simp only [Host.Core.run, hcore]

/-- Settles O21, by induction on the number of steps: a step of an accepted host answers a next state, whose host is
accepted again (`step_hostOk`). -/
theorem acceptedHostNeverStopsTheMachine : Obligations.AcceptedHostNeverStopsTheMachine := by
  intro s hs k
  induction k generalizing s with
  | zero => exact ⟨s, rfl⟩
  | succ k ih =>
    obtain ⟨t, hstep, ht⟩ := step_hostOk hs
    obtain ⟨u, hu⟩ := ih t ht
    exact ⟨u, (core_run_succ hstep k).trans hu⟩

end Sys2Proof.Machine
end

section
/-! The invariant is kept by every step (spec/10_state.md sections 2, 3, 7, 10; spec/20_memory.md section 2): by each
effect of a command, by the status update, and by each host access. -/

namespace Sys2Proof.Machine

/-! ## The invariant in parts -/

/-- The part of the invariant on the received registers (R38, R225 to R227). -/
def ReceivedInv (d : RxDesc) (nlen : Byte) : Prop :=
  d.ztype.toNat ≤ 19 ∧ nlen.toNat ≤ 128 ∧ (d.ymodeP = true → d.ymtimeP = true)
  ∧ (d.ymtimeP = true → d.ysizeP = true) ∧ (d.yovf = true → d.ysizeP = true)
  ∧ (d.yeob = true → d.ysizeP = false ∧ nlen = 0)

theorem inv_iff (s : State) : s.Inv ↔
    (s.ibuf.length ≤ 4096 ∧ s.obuf.length ≤ 4096 ∧ s.txp.length ≤ 1024 ∧ s.rxp.length ≤ 1024)
    ∧ s.errflags &&& ~~~0x001F03FE#32 = 0 ∧ s.escmapLo.getLsbD 24 = true
    ∧ ReceivedInv s.rxDesc s.rxYnlen ∧ s.rtStat.Inv := by
  simp only [State.Inv, ReceivedInv, RtStat.Inv, and_assoc]

/-! ## What a parser reports (R38, R224 to R227) -/

/-- A block 0's fields: the name is inside the payload, and an end of batch says nothing else. -/
def Yb0Fields.Valid (f : Yb0Fields) : Prop := f.nlen ≤ 128 ∧ (f.eob = true → f.nlen = 0 ∧ f.numbers = [])

theorem yb0Fields_valid {p : List Byte} (hp : p.length ≤ 128) : (yb0Fields p).Valid := by
  rw [yb0Fields]
  split
  · exact ⟨Nat.zero_le _, fun _ => ⟨rfl, rfl⟩⟩
  · exact ⟨((List.takeWhile_sublist _).length_le).trans hp, nofun⟩

def Report.Valid : Report → Prop
  | .block _ | .subpacket _ => True
  | .metadata f => f.Valid
  | .header ztype _ _ => ztype.toNat ≤ 19

/-- A unit's report is valid and its payload fits `RXP`. -/
def Parse.Valid : Parse → Prop
  | .fault _ | .compared .. => True
  | .unit _ _ report payload _ => report.Valid ∧ ∀ d ∈ payload, d.length ≤ 1024

theorem Parse.valid_ite {p : Prop} [Decidable p] {a b : Parse} (ha : p → a.Valid) (hb : ¬ p → b.Valid) :
    (if p then a else b).Valid := by
  split
  · next h => exact ha h
  · next h => exact hb h

theorem judged_valid {α : Type} {verdict : α → Parse} {x : Except ResultCode α}
    (h : ∀ u, x = .ok u → (verdict u).Valid) : (judged verdict x).Valid := by
  cases x with
  | error c => trivial
  | ok u => exact h u rfl

theorem blockSize_le (v : XVariant) : blockSize v ≤ 1024 := by
  cases v <;> decide

theorem parse_valid (i : Instr) (g : Cfg) (w : List Byte) : (parse i g w).Valid := by
  unfold parse
  split
  · refine judged_valid fun u hu => Parse.valid_ite (fun _ => trivial) fun _ => ⟨trivial, fun d hd => ?_⟩
    cases hd
    exact (scanBlock_payload_length hu).trans_le (blockSize_le _)
  · refine judged_valid fun u hu => Parse.valid_ite (fun _ => trivial) fun _ => Parse.valid_ite (fun _ => trivial)
      fun _ => ⟨yb0Fields_valid (scanBlock_payload_length hu).le, fun d hd => ?_⟩
    cases hd
    exact (scanBlock_payload_length hu).trans_le (blockSize_le _)
  · refine judged_valid fun u hu => Parse.valid_ite (fun _ => trivial) fun _ => Parse.valid_ite (fun _ => trivial)
      fun htype => ⟨?_, nofun⟩
    rw [Config.maxFrameType, gt_iff_lt, Nat.not_lt] at htype
    exact (BitVec.toNat_setWidth ..).trans_le ((Nat.mod_le _ _).trans htype)
  · refine judged_valid fun u hu => Parse.valid_ite (fun _ => trivial) fun _ => ⟨trivial, fun d hd => ?_⟩
    cases hd
    obtain ⟨hlength, -⟩ := scanData_consumes hu
    exact hlength
  · trivial

theorem receivedInv_metadata {f : Yb0Fields} (hf : f.Valid) {d : RxDesc} (htype : d.ztype.toNat ≤ 19) :
    ReceivedInv (metadataDesc f d) (BitVec.ofNat 8 f.nlen) := by
  obtain ⟨hnlen, heob⟩ := hf
  refine ⟨htype, (BitVec.toNat_ofNat ..).trans_le ((Nat.mod_le _ _).trans hnlen), ?_, ?_, ?_, fun h => ?_⟩
  · simp only [metadataDesc, decide_eq_true_iff]
    omega
  · simp only [metadataDesc, decide_eq_true_iff]
    omega
  · simp only [metadataDesc, yb0Overflow_eq_decide, decide_eq_true_iff]
    rintro ⟨x, hx, -⟩
    exact List.length_pos_of_mem hx
  · obtain ⟨hzero, hnone⟩ := heob h
    simp [metadataDesc, hzero, hnone]

theorem receivedInv_report {report : Report} (hreport : report.Valid) {s : State}
    (h : ReceivedInv s.rxDesc s.rxYnlen) : ReceivedInv (report.write s).rxDesc (report.write s).rxYnlen := by
  obtain ⟨htype, hrest⟩ := h
  cases report with
  | block | subpacket => exact ⟨htype, hrest⟩
  | metadata f => exact receivedInv_metadata hreport htype
  | header ztype => exact ⟨hreport, hrest⟩

/-- A report reaches no buffer and no other register of the invariant. -/
theorem report_keeps (report : Report) (s : State) :
    (report.write s).obuf = s.obuf ∧ (report.write s).txp = s.txp ∧ (report.write s).rxp = s.rxp
    ∧ (report.write s).errflags = s.errflags ∧ (report.write s).escmapLo = s.escmapLo
    ∧ (report.write s).rtStat = s.rtStat := by
  cases report <;> exact ⟨rfl, rfl, rfl, rfl, rfl, rfl⟩

theorem parse_inv {s : State} (h : s.Inv) {i : Instr} (hi : isParser i = true) :
    ((parse i s.cfg s.ibuf).effect s).Inv := by
  have hvalid := parse_valid i s.cfg s.ibuf
  have hsuffix := (Parse.left_suffix hi s.cfg s.ibuf).length_le
  rw [inv_iff] at h ⊢
  cases hparse : parse i s.cfg s.ibuf with
  | fault c => exact h
  | compared c a b => exact h
  | unit a b report payload rest =>
    rw [hparse] at hvalid hsuffix
    obtain ⟨hreport, hpayload⟩ := hvalid
    obtain ⟨⟨hibuf, hobuf, htxp, hrxp⟩, hflags, hmap, hreceived, hretry⟩ := h
    obtain ⟨kobuf, ktxp, krxp, kflags, kmap, kretry⟩ := report_keeps report (setCheckValues a b s)
    have kreceived := receivedInv_report hreport (s := setCheckValues a b s) hreceived
    have hrest : rest.length ≤ 4096 := hsuffix.trans hibuf
    cases payload with
    | none =>
      simp only [Parse.effect, putPayload, kobuf, ktxp, krxp, kflags, kmap, kretry]
      exact ⟨⟨hrest, hobuf, htxp, hrxp⟩, hflags, hmap, kreceived, hretry⟩
    | some d =>
      simp only [Parse.effect, putPayload, kobuf, ktxp, kflags, kmap, kretry]
      exact ⟨⟨hrest, hobuf, htxp, hpayload d rfl⟩, hflags, hmap, kreceived, hretry⟩

/-! ## Commands -/

theorem Effect.inv {s u : State} {i : Instr} {c : ResultCode} (heffect : Effect s i c u) (h : s.Inv) : u.Inv := by
  cases heffect with
  | reset => exact resetSatisfiesInvariant
  | parser hparser => exact parse_inv h hparser
  | report | ck8 | crc16 | crc32 | zeRst | zdRst => exact h
  | input w _ _ _ hroom =>
    rw [inv_iff] at h ⊢
    obtain ⟨⟨hibuf, hothers⟩, hrest⟩ := h
    exact ⟨⟨hroom hibuf, hothers⟩, hrest⟩
  | emission w _ hroom =>
    rw [inv_iff] at h ⊢
    obtain ⟨⟨hibuf, -, hothers⟩, hrest⟩ := h
    exact ⟨⟨hibuf, (List.length_append ..).trans_le hroom, hothers⟩, hrest⟩
  | obPop b rest hobuf =>
    rw [inv_iff] at h ⊢
    obtain ⟨⟨hibuf, hlength, hothers⟩, hrest⟩ := h
    rw [hobuf] at hlength
    exact ⟨⟨hibuf, Nat.le_of_succ_le hlength, hothers⟩, hrest⟩
  | obClr =>
    rw [inv_iff] at h ⊢
    obtain ⟨⟨hibuf, -, hothers⟩, hrest⟩ := h
    exact ⟨⟨hibuf, Nat.zero_le _, hothers⟩, hrest⟩
  | payload w _ _ hroom =>
    rw [inv_iff] at h ⊢
    obtain ⟨⟨hibuf, hobuf, htxp, hrxp⟩, hrest⟩ := h
    exact ⟨⟨hibuf, hobuf, hroom htxp, hrxp⟩, hrest⟩
  | rpPop b rest hrxp =>
    rw [inv_iff] at h ⊢
    obtain ⟨⟨hibuf, hobuf, htxp, hlength⟩, hrest⟩ := h
    rw [hrxp] at hlength
    exact ⟨⟨hibuf, hobuf, htxp, Nat.le_of_succ_le hlength⟩, hrest⟩
  | rpClr =>
    rw [inv_iff] at h ⊢
    obtain ⟨⟨hibuf, hobuf, htxp, -⟩, hrest⟩ := h
    exact ⟨⟨hibuf, hobuf, htxp, Nat.zero_le _⟩, hrest⟩
  | zdPut b r pend hroom =>
    rw [inv_iff] at h ⊢
    obtain ⟨⟨hibuf, hobuf, htxp, hrxp⟩, hrest⟩ := h
    exact ⟨⟨hibuf, hobuf, htxp, hroom hrxp⟩, hrest⟩
  | zdBuf r hroom =>
    rw [inv_iff] at h ⊢
    obtain ⟨⟨-, hobuf, htxp, -⟩, hrest⟩ := h
    exact ⟨⟨Nat.zero_le _, hobuf, htxp, hroom⟩, hrest⟩
  | deadline r dl _ hinv | counter c r _ _ hinv =>
    rw [inv_iff] at h ⊢
    obtain ⟨hbuffers, hflags, hmap, hreceived, hretry⟩ := h
    exact ⟨hbuffers, hflags, hmap, hreceived, hinv hretry⟩

/-- A code other than `Ok` has an assigned flag (R26). -/
theorem codeFlag_assigned {c : ResultCode} (h : c ≠ .ok) : codeFlag c &&& ~~~0x001F03FE#32 = 0 := by
  revert h
  cases c <;> decide

theorem flagsAfter_assigned (c : ResultCode) {flags : Word} (h : flags &&& ~~~0x001F03FE#32 = 0) :
    flagsAfter c flags &&& ~~~0x001F03FE#32 = 0 := by
  rw [flagsAfter]
  split
  · exact h
  · next hc =>
    rw [BitVec.and_or_distrib_right, h, codeFlag_assigned hc]
    rfl

theorem statusUpdate_inv (w : Word) (c : ResultCode) {s : State} (h : s.Inv) : (statusUpdate w c s).Inv := by
  rw [inv_iff] at h ⊢
  obtain ⟨hbuffers, hflags, hrest⟩ := h
  exact ⟨hbuffers, flagsAfter_assigned c hflags, hrest⟩

theorem runCommand_inv {w : Word} {s t : State} (h : s.Inv) (hrun : runCommand w s = .next t) : t.Inv := by
  rw [runCommand] at hrun
  split at hrun
  · obtain ⟨c, u, heffect, rfl⟩ := effect_of_exec hrun
    exact statusUpdate_inv _ c (heffect.inv h)
  · cases hrun
    exact statusUpdate_inv w .illegalCommand h

/-! ## Host accesses -/

theorem regWrite_inv (off : Nat) (v : Word) {s : State} (h : s.Inv) : (regWrite off v s).Inv := by
  unfold regWrite
  split
  case h_1 =>
    rw [inv_iff] at h ⊢
    obtain ⟨hbuffers, hflags, hrest⟩ := h
    refine ⟨hbuffers, ?_, hrest⟩
    dsimp only
    rw [flagsCleared, BitVec.and_assoc, BitVec.and_comm (~~~v), ← BitVec.and_assoc, hflags]
    exact BitVec.zero_and
  case h_3 =>
    rw [inv_iff] at h ⊢
    obtain ⟨hbuffers, hflags, -, hrest⟩ := h
    refine ⟨hbuffers, hflags, ?_, hrest⟩
    dsimp only
    rw [BitVec.getLsbD_or, (escmapHardwired_getLsbD 24).mpr rfl, Bool.or_true]
  all_goals exact h

theorem busWrite_inv {off : Nat} {v : Word} {s t : State} (h : s.Inv) (hwrite : busWrite off v s = .next t) :
    t.Inv := by
  rw [busWrite] at hwrite
  split at hwrite
  · exact runCommand_inv h hwrite
  · cases hwrite
    exact regWrite_inv off v h

theorem perform_inv {e : HostEvent} {s t : State} (h : s.Inv) (hperform : perform e s = .next t) : t.Inv := by
  cases e with
  | read off bytes =>
    rw [perform_read] at hperform
    split at hperform
    · cases hperform
      exact h
    · cases hperform
  | write off bytes v =>
    rw [perform_write] at hperform
    split at hperform
    · exact busWrite_inv h hperform
    · cases hperform
  | reset =>
    cases hperform
    exact resetSatisfiesInvariant

/-- Settles O20: each host event keeps the invariant (`perform_inv`), a command because each of its effects does
(`Effect.inv`), and an idle step changes nothing. -/
theorem stepKeepsInvariant : Obligations.StepKeepsInvariant := by
  intro s t h hstep
  cases hpending : s.pending with
  | nil =>
    rw [step_idle hpending] at hstep
    cases hstep
    exact h
  | cons a rest =>
    rw [step_pending hpending] at hstep
    exact perform_inv (s := { s with now := a.time, pending := rest }) h hstep

end Sys2Proof.Machine
end

section
/-! The retry counter and the time input against the other units (spec/45_retry_timeout.md Overview, R250, R277):
other contents of `RT_CFG`, `RT_TMO`, `RT_STAT`, `RT_DL` and another time pass through every command of another unit
unread and unwritten. -/

namespace Sys2Proof.Machine

/-- The state with other contents of the retry counter, at another time. -/
def withRetry (mx : Half) (tmo : Word) (r : RtStat) (dl : Time) (n : Time) (s : State) : State :=
  { s with rtMax := mx, rtTmo := tmo, rtStat := r, rtDl := dl, now := n }

section
variable {mx : Half} {tmo : Word} {r : RtStat} {dl n : Time}

theorem mapNext_ite {f : State → State} {p : Prop} [Decidable p] {a b a' b' : Result} (ha : a' = mapNext f a)
    (hb : b' = mapNext f b) : (if p then a' else b') = mapNext f (if p then a else b) := by
  rw [ha, hb, apply_ite (mapNext f)]

theorem finish_withRetry (i : Instr) (c : ResultCode) (s : State) :
    finish i c (withRetry mx tmo r dl n s) = mapNext (withRetry mx tmo r dl n) (finish i c s) := rfl

theorem finishEmit_withRetry (i : Instr) (w : List Byte) (s : State) :
    finishEmit i w (withRetry mx tmo r dl n s) = mapNext (withRetry mx tmo r dl n) (finishEmit i w s) :=
  mapNext_ite rfl rfl

theorem parse_effect_withRetry (p : Parse) (s : State) :
    p.effect (withRetry mx tmo r dl n s) = withRetry mx tmo r dl n (p.effect s) := by
  cases p with
  | fault | compared => rfl
  | unit a b report payload rest => cases payload <;> cases report <;> rfl

/-- The commands of the other units, but SRST, pass the retry counter and the time through. -/
theorem exec_withRetry {i : Instr} (hretry : isRetry i = false) (hsrst : i ≠ .srst) (s : State) :
    exec i (withRetry mx tmo r dl n s) = mapNext (withRetry mx tmo r dl n) (exec i s) := by
  cases i with
  | srst | rtRst | rtArm | rtOk | rtFail | rtPoll => contradiction
  | nop | ibClr | ibDrop | ibHunt | obClr | tpClr | rpClr | ck8Init | ck8Upd | ck8Buf | c16Init | c16Upd
  | c16Buf | c32Init | c32Upd | c32Buf | zeRst | zdRst => rfl
  | ibPush | tpPush | zdEnd => exact mapNext_ite rfl rfl
  | obPush | zePut | zeBuf | fsZdat => exact finishEmit_withRetry _ _ s
  | fsYeob =>
    rw [exec_fsYeob, exec_fsYeob]
    exact finishEmit_withRetry ..
  | fsXblk | fsZhdr => exact mapNext_ite rfl (finishEmit_withRetry _ _ s)
  | fsYb0 => exact mapNext_ite rfl (mapNext_ite rfl (finishEmit_withRetry _ _ s))
  | obPop =>
    show execObPop _ = mapNext _ (execObPop s)
    rw [execObPop, execObPop, withRetry]
    dsimp only
    split <;> rfl
  | rpPop =>
    show execRpPop _ = mapNext _ (execRpPop s)
    rw [execRpPop, execRpPop, withRetry]
    dsimp only
    split <;> rfl
  | zdPut b =>
    show execZdPut b _ = mapNext _ (execZdPut b s)
    rw [execZdPut, execZdPut, withRetry]
    dsimp only
    split
    · rfl
    · rfl
    · exact mapNext_ite rfl rfl
  | zdBuf =>
    show execZdBuf _ = mapNext _ (execZdBuf s)
    rw [execZdBuf, execZdBuf, withRetry]
    dsimp only
    split
    · rfl
    · exact mapNext_ite rfl rfl
  | fpXblk | fpYb0 | fpZhdr | fpZdat =>
    rw [exec_parser rfl, exec_parser rfl]
    exact (congrArg (finish _ _) (parse_effect_withRetry ..)).trans (finish_withRetry ..)

end

/-- No command of another unit changes what `withRetry` changes. -/
theorem exec_keeps_retry {i : Instr} {s t : State} (h : exec i s = .next t) (hretry : isRetry i = false)
    (hsrst : i ≠ .srst) : withRetry s.rtMax s.rtTmo s.rtStat s.rtDl s.now t = t := by
  have hself : exec i s = mapNext (withRetry s.rtMax s.rtTmo s.rtStat s.rtDl s.now) (exec i s) :=
    exec_withRetry hretry hsrst s
  rw [h] at hself
  exact (Host.Outcome.next.inj hself).symm

theorem mapNext_congr {f g : State → State} {x : Result} (h : ∀ t, x = .next t → f t = g t) :
    mapNext f x = mapNext g x := by
  cases x with
  | next t => exact congrArg Host.Outcome.next (h t rfl)
  | fault e => rfl
  | refused e => rfl

/-- The retry commands that do not compare the time, and SRST, pass the time through. -/
theorem exec_at_time {i : Instr} (hi : i ∈ [Instr.srst, .rtRst, .rtOk, .rtFail]) (s : State) (n : Time) :
    exec i { s with now := n } = mapNext (fun t => { t with now := n }) (exec i s) := by
  simp only [List.mem_cons, List.not_mem_nil, or_false] at hi
  rcases hi with rfl | rfl | rfl | rfl
  · rfl
  · rfl
  · exact mapNext_ite rfl rfl
  · exact mapNext_ite rfl rfl

theorem other_unit_or_timeless {i : Instr} (harm : i ≠ .rtArm) (hpoll : i ≠ .rtPoll) :
    (isRetry i = false ∧ i ≠ .srst) ∨ i ∈ [Instr.srst, .rtRst, .rtOk, .rtFail] := by
  cases i with
  | rtArm | rtPoll => contradiction
  | srst | rtRst | rtOk | rtFail => exact .inr (by decide)
  | _ => exact .inl ⟨rfl, nofun⟩

/-- Settles O22: the commands of the other units pass both through (`exec_withRetry`), each clause with the other
part's own contents, and the remaining commands pass the time through (`exec_at_time`). -/
theorem retryStateAndTimeAreIndependent : Obligations.RetryStateAndTimeAreIndependent := by
  refine ⟨fun i s mx tmo r dl hretry hsrst => ?contents, fun i s n harm hpoll => ?time⟩
  case contents =>
    refine (exec_withRetry (n := s.now) hretry hsrst s).trans (mapNext_congr fun t ht => ?_)
    have hkeeps := congrArg State.now (exec_keeps_retry ht hretry hsrst)
    have hnow : s.now = t.now := hkeeps
    rw [hnow]
    rfl
  case time =>
    rcases other_unit_or_timeless harm hpoll with ⟨hretry, hsrst⟩ | htimeless
    · refine (exec_withRetry (mx := s.rtMax) (tmo := s.rtTmo) (r := s.rtStat) (dl := s.rtDl) hretry hsrst s).trans
        (mapNext_congr fun t ht => ?_)
      exact congrArg (fun u : State => { u with now := n }) (exec_keeps_retry ht hretry hsrst)
    · exact exec_at_time htimeless s n

end Sys2Proof.Machine
end

section
/-! Commands over all of `TXP` against one command per byte (spec/41_checksum.md R165, R168; spec/42_escape.md R176):
the loop over the bytes is a fold of the register, or an encoder that carries its last wire byte in `ZE_LAST`. -/

namespace Sys2Proof.Machine

theorem runCommands_cons {i : Instr} {s t : State} (h : exec i s = .next t) (is : List Instr) :
    runCommands (i :: is) s = runCommands is t := by
  rw [runCommands, h]

/-! ## Checksums (R162, R165, R168) -/

theorem runCommands_c16Upd (d : List Byte) (s : State) :
    runCommands (d.map Instr.c16Upd) (endedOk s) = .next (endedOk { s with crc16 := crc16 d s.crc16 }) := by
  induction d generalizing s with
  | nil => rfl
  | cons b d ih =>
    exact (runCommands_cons (exec_c16Upd b (endedOk s)) _).trans (ih { s with crc16 := crc16Step s.crc16 b })

theorem runCommands_c32Upd (d : List Byte) (s : State) :
    runCommands (d.map Instr.c32Upd) (endedOk s) = .next (endedOk { s with crc32Raw := crc32Raw d s.crc32Raw }) := by
  induction d generalizing s with
  | nil => rfl
  | cons b d ih =>
    exact (runCommands_cons (exec_c32Upd b (endedOk s)) _).trans (ih { s with crc32Raw := crc32Step s.crc32Raw b })

theorem exec_ck8Buf (s : State) : exec .ck8Buf s = .next (endedOk { s with ck8 := ck8 s.txp s.ck8 }) := finish_ok ..

theorem exec_c16Buf (s : State) : exec .c16Buf s = .next (endedOk { s with crc16 := crc16 s.txp s.crc16 }) :=
  finish_ok ..

theorem exec_c32Buf (s : State) : exec .c32Buf s = .next (endedOk { s with crc32Raw := crc32Raw s.txp s.crc32Raw }) :=
  finish_ok ..

/-- Settles O29: the sum as a number (`ck8_eq_ofNat`), and each CRC by induction on the bytes
(`runCommands_c16Upd`, `runCommands_c32Upd`). -/
theorem payloadChecksumEqualsByteUpdates : Obligations.PayloadChecksumEqualsByteUpdates := by
  intro s
  refine ⟨?_, ⟨_, exec_c16Buf s, runCommands_c16Upd s.txp s, rfl⟩, ⟨_, exec_c32Buf s, runCommands_c32Upd s.txp s, rfl⟩⟩
  rw [exec_ck8Buf, ck8_eq_ofNat]

/-! ## The escape encoder (R176) -/

/-- The last wire byte of a logical byte is the context of the next (R173). -/
theorem zenc1_getLastD (map : BitVec 64) (crctx : Bool) (b last : Byte) :
    (zenc1 map crctx b last).1.getLastD last = (zenc1 map crctx b last).2 := by
  rw [zenc1]
  split <;> rfl

theorem emit_append (v w : List Byte) (s : State) : emit (v ++ w) s = emit w (emit v s) := by
  have hlast : (v ++ w).getLastD s.zstate.zeLast = w.getLastD (v.getLastD s.zstate.zeLast) := by
    simp only [List.getLastD_eq_getLast?, List.getLast?_append]
    cases w.getLast? <;> rfl
  rw [emit, hlast, ← List.append_assoc]
  rfl

theorem escmap_emit (w : List Byte) (s : State) : escmap (emit w s) = escmap s := rfl

theorem exec_zePut_fits {s : State} {b : Byte}
    (hroom : s.obuf.length + (zenc1 (escmap s) s.cfg.crctx b s.zstate.zeLast).1.length ≤ 4096) :
    exec (.zePut b) (endedOk s) = .next (endedOk (emit (zenc1 (escmap s) s.cfg.crctx b s.zstate.zeLast).1 s)) := by
  have hput := finishEmit_fits (.zePut b) (zenc1 (escmap s) s.cfg.crctx b s.zstate.zeLast).1 (endedOk s) hroom
  rw [← emit_eq_emitted] at hput
  exact hput

/-- One ZE.PUT per byte emits the encoded form of the bytes, the context running through `ZE_LAST`. -/
theorem runCommands_zePut (d : List Byte) (s : State)
    (hroom : s.obuf.length + (zenc (escmap s) s.cfg.crctx s.zstate.zeLast d).1.length ≤ 4096) :
    runCommands (d.map Instr.zePut) (endedOk s) =
      .next (endedOk (emit (zenc (escmap s) s.cfg.crctx s.zstate.zeLast d).1 s)) := by
  induction d generalizing s with
  | nil =>
    rw [zenc, emit_nil]
    rfl
  | cons b d ih =>
    rw [zenc, List.length_append] at hroom
    have hput := exec_zePut_fits (s := s) (b := b) (by omega)
    have hrest := ih (emit (zenc1 (escmap s) s.cfg.crctx b s.zstate.zeLast).1 s)
    simp only [emit_zstate, emit_cfg, escmap_emit, zenc1_getLastD, emit_obuf, List.length_append] at hrest
    rw [zenc, emit_append, List.map_cons, runCommands_cons hput]
    exact hrest (by simpa [Nat.add_assoc] using hroom)

theorem exec_zeBuf (s : State) : exec .zeBuf s = finishEmit .zeBuf (wireBytes s s.txp s.zstate.zeLast) s := rfl

/-- Settles O33: ZE.BUF is one emission of the encoded form, whose room decides the outcome; the bytes put one by one
emit the same form (`runCommands_zePut`), which takes at most two wire bytes each (`zenc_length`). -/
theorem encodePayloadEqualsBytePuts : Obligations.EncodePayloadEqualsBytePuts := by
  intro s
  obtain ⟨-, hshort⟩ := zenc_length (escmap s) s.cfg.crctx s.txp s.zstate.zeLast
  rcases Nat.lt_or_ge 4096 (s.obuf.length + (wireBytes s s.txp s.zstate.zeLast).length) with hfull | hroom
  · refine ⟨_, (exec_zeBuf s).trans (finishEmit_full _ _ s hfull), ⟨⟨nofun, fun h => ?_⟩, nofun⟩, nofun, fun h => ?_,
      fun _ => rfl, rfl⟩
    · exact absurd h (Nat.not_le.mpr hfull)
    · rw [wireBytes] at hfull
      omega
  · refine ⟨_, (exec_zeBuf s).trans (finishEmit_fits _ _ s hroom), ⟨⟨fun _ => hroom, fun _ => rfl⟩, fun _ => rfl⟩,
      fun _ => ?_, fun _ => rfl, fun h => absurd rfl h, ?_⟩
    · rw [runCommands_zePut s.txp s hroom, emit_eq_emitted]
      rfl
    · rw [← emit_eq_emitted]
      rfl

end Sys2Proof.Machine
end

section
/-! The serializer as a whole (spec/43_serializer.md R191, R198, R212): a serializer command is a wire image that its
inputs fix, or the code of its input check, and then one emission. The number text of block 0 is the digits of the
number in its base. -/

namespace Sys2Proof.Machine

/-! ## The unit a serializer command emits -/

/-- The wire image a serializer command appends to `OBUF`, or the code of its input check; no other command makes a
unit (R194, R199, R200, R209, R210). -/
def unitImage (s : State) : Instr → Except ResultCode (List Byte)
  | .fsXblk =>
    if s.txp.length > blockSize s.cfg.xvar then .error .overrun
    else .ok (blockImage s.cfg.xvar s.txDesc.blk (padTo (blockSize s.cfg.xvar) Config.padByte s.txp))
  | .fsYb0 =>
    if s.txp.length = 0 ∨ s.txp.contains 0x00 then .error .illegalCommand
    else if (yb0Text s.txp s.txYsize s.txYmtime s.txYmode).length > Config.xblkSmall then .error .overrun
    else .ok (blockImage .crc 0x00
      (padTo Config.xblkSmall 0x00 (yb0Text s.txp s.txYsize s.txYmtime s.txYmode)))
  | .fsYeob => .ok ([0x01, 0x00, 0xFF] ++ List.replicate 128 0x00 ++ [0x00, 0x00])
  | .fsZhdr =>
    if s.txDesc.ztype.toNat > Config.maxFrameType then .error .invalidFrameType
    else .ok (headerImage s s.txDesc.zenc (s.txDesc.ztype.setWidth 8) s.txZhdr)
  | .fsZdat => .ok (zsub s s.txp (markerByte s.txDesc.zend) s.zstate.zeLast)
  | _ => .error .illegalCommand

/-- The end of a serializer command with that image. -/
def finishUnit (i : Instr) (s : State) : Except ResultCode (List Byte) → Result
  | .error c => finish i c s
  | .ok w => finishEmit i w s

theorem finishUnit_ite (p : Prop) [Decidable p] (i : Instr) (s : State) (x y : Except ResultCode (List Byte)) :
    finishUnit i s (if p then x else y) = if p then finishUnit i s x else finishUnit i s y :=
  apply_ite ..

/-- The serializer commands. -/
abbrev Serializer (i : Instr) : Prop := i ∈ [Instr.fsXblk, .fsYb0, .fsYeob, .fsZhdr, .fsZdat]

theorem serializer_iff (i : Instr) :
    Serializer i ↔ i = .fsXblk ∨ i = .fsYb0 ∨ i = .fsYeob ∨ i = .fsZhdr ∨ i = .fsZdat := by
  simp [Serializer]

theorem exec_serializer {i : Instr} (hi : Serializer i) (s : State) :
    exec i s = finishUnit i s (unitImage s i) := by
  rcases (serializer_iff i).mp hi with rfl | rfl | rfl | rfl | rfl
  · rw [unitImage, finishUnit_ite]
    rfl
  · rw [unitImage, finishUnit_ite, finishUnit_ite]
    rfl
  · rfl
  · rw [unitImage, finishUnit_ite]
    rfl
  · rfl

/-- The codes of the input checks. -/
theorem unitImage_error {i : Instr} {s : State} {c : ResultCode} (h : unitImage s i = .error c) :
    c = .overrun ∨ c = .illegalCommand ∨ c = .invalidFrameType := by
  unfold unitImage at h
  split at h
  · split at h <;> cases h
    exact .inl rfl
  · split at h
    · cases h
      exact .inr (.inl rfl)
    · split at h <;> cases h
      exact .inl rfl
  · cases h
  · split at h <;> cases h
    exact .inr (.inr rfl)
  · cases h
  · cases h
    exact .inr (.inl rfl)

/-- A serializer command ends `Ok` with its unit in `OBUF`, or it changes nothing but the status: the code is then that
of an input check, or `BufferFull` because the unit does not fit. -/
theorem serializer_ends {i : Instr} (hi : Serializer i) {s t : State} (h : exec i s = .next t) :
    (∃ w, unitImage s i = .ok w ∧ t = endedOk (emit w s))
    ∨ ∃ c, c ≠ .ok ∧ t = ended c (encode i) s
        ∧ (c = .bufferFull → ∃ w, unitImage s i = .ok w ∧ 4096 < s.obuf.length + w.length) := by
  rw [exec_serializer hi] at h
  cases hunit : unitImage s i with
  | error c =>
    have hc : c ≠ .ok ∧ c ≠ .bufferFull := by
      rcases unitImage_error hunit with rfl | rfl | rfl <;> decide
    rw [hunit, finishUnit, finish_other _ _ _ hc.1] at h
    cases h
    exact .inr ⟨c, hc.1, rfl, fun hfull => absurd hfull hc.2⟩
  | ok w =>
    rw [hunit, finishUnit] at h
    rcases finishEmit_cases h with ⟨-, rfl⟩ | ⟨hfull, rfl⟩
    · exact .inl ⟨w, rfl, by rw [emit_eq_emitted]⟩
    · exact .inr ⟨.bufferFull, by decide, rfl, fun _ => ⟨w, rfl, hfull⟩⟩

/-- A unit that fits is emitted. -/
theorem exec_serializer_emits {i : Instr} (hi : Serializer i) {s : State} {w : List Byte}
    (hunit : unitImage s i = .ok w) (hroom : s.obuf.length + w.length ≤ 4096) :
    exec i s = .next (endedOk (emit w s)) := by
  rw [exec_serializer hi, hunit, finishUnit, finishEmit_fits _ _ _ hroom, emit_eq_emitted]

theorem serializer_ends_ok {i : Instr} (hi : Serializer i) {s t : State} (h : exec i s = .next t)
    (hok : t.result = .ok) : ∃ w, unitImage s i = .ok w ∧ t = endedOk (emit w s) := by
  rcases serializer_ends hi h with hunit | ⟨c, hc, rfl, -⟩
  · exact hunit
  · exact absurd hok hc

/-- What a serializer command that ended `Ok` appended. -/
theorem serializer_obuf {i : Instr} (hi : Serializer i) {s t : State} (h : exec i s = .next t)
    (hok : t.result = .ok) : ∃ w, unitImage s i = .ok w ∧ t.obuf = s.obuf ++ w := by
  obtain ⟨w, hunit, rfl⟩ := serializer_ends_ok hi h hok
  exact ⟨w, hunit, rfl⟩

/-! ## Lengths (spec/70_reset_and_hazards.md section 3) -/

theorem wireBytes_length_le (s : State) (d : List Byte) (last : Byte) : (wireBytes s d last).length ≤ 2 * d.length :=
  (zenc_length (escmap s) s.cfg.crctx d last).2

theorem hexWire_length (d : List Byte) : (hexWire d).length = 2 * d.length := by
  induction d with
  | nil => rfl
  | cons b d ih => simp only [hexWire, List.length_cons, ih]; omega

theorem headerBody_length (t : Byte) (h : Word) : (headerBody t h).length = 5 := rfl

theorem crc16Bytes_length (c : Half) : (crc16Bytes c).length = 2 := rfl

theorem wordBytes_length (v : Word) : (wordBytes v).length = 4 := rfl

theorem hexTail_length_le (t : Byte) : (hexTail t).length ≤ 1 := by
  unfold hexTail
  split <;> decide

theorem headerImage_length_le (s : State) (enc : ZEncoding) (t : Byte) (h : Word) :
    (headerImage s enc t h).length ≤ 21 := by
  cases enc with
  | hex =>
    have htail := hexTail_length_le t
    simp only [headerImage, zhex, flatMap_hex2, List.length_append, hexWire_length, headerBody_length,
      crc16Bytes_length, List.length_cons, List.length_nil]
    omega
  | bin16 =>
    have hwire := wireBytes_length_le s
      (headerBody t h ++ crc16Bytes (crc16 (headerBody t h) Config.crc16Init)) Config.zbin
    simp only [List.length_append, headerBody_length, crc16Bytes_length] at hwire
    simp only [headerImage, zbin16, List.length_append, List.length_cons, List.length_nil]
    omega
  | bin32 =>
    have hwire := wireBytes_length_le s (headerBody t h ++ wordBytes (crc32 (headerBody t h))) Config.zbin32Letter
    simp only [List.length_append, headerBody_length, wordBytes_length] at hwire
    simp only [headerImage, zbin32, List.length_append, List.length_cons, List.length_nil]
    omega

theorem subpacketCrc_length_le (wide : Bool) (d : List Byte) (m : Byte) : (subpacketCrc wide d m).length ≤ 4 := by
  cases wide with
  | false => rw [subpacketCrc_narrow, crc16Bytes_length]; omega
  | true => rw [subpacketCrc_wide, wordBytes_length]

theorem zsub_length_le {d : List Byte} (hd : d.length ≤ 1024) (s : State) (m last : Byte) :
    (zsub s d m last).length ≤ 2058 := by
  have hpayload := wireBytes_length_le s d last
  have hcheck := wireBytes_length_le s (subpacketCrc s.cfg.zcrcw d m) m
  have hwidth := subpacketCrc_length_le s.cfg.zcrcw d m
  simp only [zsub, List.length_append, List.length_cons, List.length_nil]
  omega

theorem blockImage_length_le {v : XVariant} {p : List Byte} (number : Byte) (h : p.length = blockSize v) :
    (blockImage v number p).length ≤ 1029 := by
  have hmost : 3 + blockSize v + (variantShape v).2.2 ≤ 1029 := by
    cases v <;> decide
  rwa [blockImage, List.length_append, List.length_append, h, blockTrailer_length]

/-- The most bytes one unit of a serializer command takes. -/
def unitBound : Instr → Nat
  | .fsXblk => 1029
  | .fsYb0 | .fsYeob => 133
  | .fsZhdr => 21
  | .fsZdat => 2058
  | _ => 0

theorem unitBound_le (i : Instr) : unitBound i ≤ 2058 := by
  unfold unitBound
  split <;> decide

theorem unitImage_yb0 {s : State} {w : List Byte} (h : unitImage s .fsYb0 = .ok w) :
    s.txp ≠ [] ∧ 0x00 ∉ s.txp ∧ (yb0Text s.txp s.txYsize s.txYmtime s.txYmode).length ≤ 128
    ∧ w = blockImage .crc 0x00 (padTo 128 0x00 (yb0Text s.txp s.txYsize s.txYmtime s.txYmode)) := by
  rw [unitImage] at h
  split at h
  · cases h
  · next hname =>
    split at h
    · cases h
    · next hfits =>
      cases h
      obtain ⟨hne, hzero⟩ := not_or.mp hname
      exact ⟨mt List.length_eq_zero_iff.mpr hne, mt List.contains_iff_mem.mpr hzero, Nat.not_lt.mp hfits, rfl⟩

theorem unitImage_yb0_length {s : State} {w : List Byte} (h : unitImage s .fsYb0 = .ok w) : w.length = 133 := by
  obtain ⟨-, -, hfits, rfl⟩ := unitImage_yb0 h
  exact crcBlock_length 0x00 (padTo_length 0x00 hfits)

theorem unitImage_yeob_length {s : State} {w : List Byte} (h : unitImage s .fsYeob = .ok w) : w.length = 133 := by
  cases h
  exact endOfBatch_length

theorem unitImage_length_le {i : Instr} {s : State} {w : List Byte} (htxp : s.txp.length ≤ 1024)
    (h : unitImage s i = .ok w) : w.length ≤ unitBound i := by
  unfold unitImage at h
  split at h
  · split at h <;> cases h
    next hfits => exact blockImage_length_le _ (padTo_length _ (Nat.not_lt.mp hfits))
  · exact (unitImage_yb0_length h).le
  · exact (unitImage_yeob_length (s := s) h).le
  · split at h <;> cases h
    exact headerImage_length_le ..
  · cases h
    exact zsub_length_le htxp ..
  · cases h

/-- Where the bound leaves room, a serializer command does not end `BufferFull`. -/
theorem serializer_fits {i : Instr} (hi : Serializer i) {s t : State} (htxp : s.txp.length ≤ 1024)
    (hroom : s.obuf.length + unitBound i ≤ 4096) (h : exec i s = .next t) :
    t.result ≠ .bufferFull ∧ t.obuf.length ≤ s.obuf.length + unitBound i := by
  rcases serializer_ends hi h with ⟨w, hunit, rfl⟩ | ⟨c, -, rfl, hfull⟩
  · have hw := unitImage_length_le htxp hunit
    refine ⟨fun hfull => by contradiction, ?_⟩
    rw [show (endedOk (emit w s)).obuf = s.obuf ++ w from rfl, List.length_append]
    omega
  · refine ⟨fun hc => ?_, Nat.le_add_right ..⟩
    obtain ⟨w, hunit, hlong⟩ := hfull hc
    have hw := unitImage_length_le htxp hunit
    omega

/-! ## The inputs stay (R212) -/

/-- The inputs of the serializer commands. -/
def SameInputs (s t : State) : Prop :=
  t.txp = s.txp ∧ t.txDesc = s.txDesc ∧ t.txZhdr = s.txZhdr ∧ t.txYsize = s.txYsize ∧ t.txYmtime = s.txYmtime
  ∧ t.txYmode = s.txYmode ∧ t.cfg = s.cfg ∧ t.escmapLo = s.escmapLo ∧ t.escmapHi = s.escmapHi

theorem serializer_keeps {i : Instr} (hi : Serializer i) {s t : State} (h : exec i s = .next t) :
    SameInputs s t := by
  rcases serializer_ends hi h with ⟨w, -, rfl⟩ | ⟨c, -, rfl, -⟩ <;>
    exact ⟨rfl, rfl, rfl, rfl, rfl, rfl, rfl, rfl, rfl⟩

/-- The inputs fix the unit, and for FS.ZDAT `ZE_LAST` does too. -/
theorem unitImage_endedOk_emit {i : Instr} {s : State} {w : List Byte}
    (h : i ≠ .fsZdat ∨ (emit w s).zstate.zeLast = s.zstate.zeLast) :
    unitImage (endedOk (emit w s)) i = unitImage s i := by
  by_cases hi : i = .fsZdat
  · subst hi
    have hlast := h.resolve_left (not_not.mpr rfl)
    exact congrArg (fun last => Except.ok (zsub s s.txp (markerByte s.txDesc.zend) last)) hlast
  · unfold unitImage
    split <;> trivial

theorem blockImage_ne_nil (v : XVariant) (number : Byte) (p : List Byte) : blockImage v number p ≠ [] := by
  simp [blockImage]

theorem headerImage_ne_nil (s : State) (enc : ZEncoding) (t : Byte) (h : Word) : headerImage s enc t h ≠ [] := by
  cases enc <;> simp [headerImage, zhex, zbin16, zbin32]

theorem zsub_ne_nil (s : State) (d : List Byte) (m last : Byte) : zsub s d m last ≠ [] := by
  simp [zsub]

theorem unitImage_ne_nil {i : Instr} {s : State} {w : List Byte} (h : unitImage s i = .ok w) : w ≠ [] := by
  unfold unitImage at h
  split at h
  · split at h <;> cases h
    exact blockImage_ne_nil _ _ _
  · split at h
    · cases h
    · split at h <;> cases h
      exact blockImage_ne_nil _ _ _
  · cases h
    exact List.append_ne_nil_of_right_ne_nil _ (List.cons_ne_nil _ _)
  · split at h <;> cases h
    exact headerImage_ne_nil _ _ _ _
  · cases h
    exact zsub_ne_nil _ _ _ _
  · cases h

/-- Settles O43: an emission leaves the inputs, so the command's unit is the same when it is issued again
(`unitImage_endedOk_emit`). -/
theorem repeatedSerializationRepeatsUnit : Obligations.RepeatedSerializationRepeatsUnit := by
  intro i s t u hi hfirst
  refine ⟨serializer_keeps hi hfirst, fun hok hsecond hok' hlast => ?_⟩
  obtain ⟨w, hunit, rfl⟩ := serializer_ends_ok hi hfirst hok
  obtain ⟨w', hunit', rfl⟩ := serializer_ends_ok hi hsecond hok'
  rw [unitImage_endedOk_emit hlast, hunit] at hunit'
  cases hunit'
  exact ⟨w, unitImage_ne_nil hunit, rfl, rfl⟩

/-- Settles O41: no unit is longer than its command's bound (`unitImage_length_le`), which leaves room in an empty
`OBUF`, and behind a header for a subpacket (`serializer_fits`). -/
theorem unitLengthBounds : Obligations.UnitLengthBounds := by
  intro s hempty htxp
  have hlength : s.obuf.length = 0 := by rw [hempty]; rfl
  refine ⟨fun i t hi hexec => ?one, fun t u hheader hdata => ?both⟩
  case one =>
    have hroom : s.obuf.length + unitBound i ≤ 4096 := by
      have := unitBound_le i
      omega
    obtain ⟨hresult, hobuf⟩ := serializer_fits hi htxp hroom hexec
    rw [hlength, Nat.zero_add] at hobuf
    refine ⟨hresult, ?_, ?_, ?_, ?_, ?_⟩
    · rintro rfl
      exact hobuf
    · rintro rfl hok
      obtain ⟨w, hunit, hw⟩ := serializer_obuf hi hexec hok
      rw [hw, hempty, List.nil_append, unitImage_yb0_length hunit]
    · rintro rfl
      rw [exec_serializer_emits hi rfl (by rw [hlength, endOfBatch_length]; decide)] at hexec
      cases hexec
      rw [show (endedOk (emit _ s)).obuf = s.obuf ++ _ from rfl, hempty, List.nil_append, endOfBatch_length]
    · rintro rfl
      exact hobuf
    · rintro rfl
      exact hobuf
  case both =>
    obtain ⟨-, hobuf⟩ := serializer_fits (by decide) htxp (by rw [hlength]; decide) hheader
    have hsame : t.txp = s.txp := (serializer_keeps (by decide) hheader).1
    have hsubpacket := zsub_length_le (d := t.txp) (hsame ▸ htxp) t (markerByte t.txDesc.zend) t.zstate.zeLast
    rw [hlength, Nat.zero_add] at hobuf
    rw [exec_serializer_emits (by decide) rfl (by change t.obuf.length ≤ 21 at hobuf; omega)] at hdata
    cases hdata
    rfl

/-! ## The number text of block 0 (R198) -/

theorem digitText_small {base n : Nat} (fuel : Nat) (h : n < base) :
    digitText base (fuel + 1) n = [BitVec.ofNat 8 (0x30 + n)] :=
  if_pos h

theorem digitText_large {base n : Nat} (fuel : Nat) (h : base ≤ n) :
    digitText base (fuel + 1) n = digitText base fuel (n / base) ++ [BitVec.ofNat 8 (0x30 + n % base)] :=
  if_neg (Nat.not_lt.mpr h)

theorem digitText_ne_nil (base fuel n : Nat) : digitText base (fuel + 1) n ≠ [] := by
  rw [digitText]
  split <;> simp

/-- The ASCII byte of a digit. -/
theorem digitByte_toNat {base n : Nat} (hten : base ≤ 10) (h : n < base) :
    (BitVec.ofNat 8 (0x30 + n)).toNat = 0x30 + n := by
  rw [BitVec.toNat_ofNat, Nat.mod_eq_of_lt (by omega)]

theorem digit_digitByte {base n : Nat} (hten : base ≤ 10) (h : n < base) :
    Digit base (BitVec.ofNat 8 (0x30 + n)) := by
  rw [Digit, digitByte_toNat hten h]
  omega

theorem textNumber_concat (base : Nat) (d : List Byte) (b : Byte) :
    textNumber base (d ++ [b]) = textNumber base d * base + (b.toNat - 0x30) := by
  rw [← runNumber_eq_textNumber, ← runNumber_eq_textNumber, runNumber, runNumber, List.foldl_append]
  rfl

theorem digitText_digits {base : Nat} (hpos : 0 < base) (hten : base ≤ 10) (fuel n : Nat) :
    ∀ b ∈ digitText base fuel n, Digit base b := by
  induction fuel generalizing n with
  | zero => exact fun b hb => absurd hb (List.not_mem_nil)
  | succ fuel ih =>
    rcases Nat.lt_or_ge n base with hsmall | hlarge
    · rw [digitText_small fuel hsmall]
      exact List.forall_mem_singleton.mpr (digit_digitByte hten hsmall)
    · rw [digitText_large fuel hlarge, List.forall_mem_append]
      exact ⟨ih _, List.forall_mem_singleton.mpr (digit_digitByte hten (Nat.mod_lt n hpos))⟩

theorem textNumber_digitText {base : Nat} (hpos : 0 < base) (hten : base ≤ 10) {fuel n : Nat} (h : n < base ^ fuel) :
    textNumber base (digitText base fuel n) = n := by
  induction fuel generalizing n with
  | zero => exact (Nat.lt_one_iff.mp h).symm
  | succ fuel ih =>
    rcases Nat.lt_or_ge n base with hsmall | hlarge
    · rw [digitText_small fuel hsmall, textNumber, digitByte_toNat hten hsmall]
      simp [textNumber]
    · have hquot : n / base < base ^ fuel := Nat.div_lt_of_lt_mul (by rwa [← Nat.pow_succ'])
      rw [digitText_large fuel hlarge, textNumber_concat, ih hquot, digitByte_toNat hten (Nat.mod_lt n hpos),
        Nat.add_sub_cancel_left, Nat.div_add_mod']

theorem digitText_length_le {base : Nat} (fuel : Nat) {k n : Nat} (hk : 0 < k) (h : n < base ^ k) :
    (digitText base fuel n).length ≤ k := by
  induction fuel generalizing k n with
  | zero => exact Nat.zero_le k
  | succ fuel ih =>
    rcases Nat.lt_or_ge n base with hsmall | hlarge
    · rw [digitText_small fuel hsmall]
      exact hk
    · obtain ⟨j, rfl⟩ := Nat.exists_eq_add_one_of_ne_zero hk.ne'
      have hj : 0 < j := Nat.pos_of_ne_zero fun hj => by
        rw [hj, Nat.zero_add, Nat.pow_one] at h
        omega
      have hquot : n / base < base ^ j := Nat.div_lt_of_lt_mul (by rwa [← Nat.pow_succ'])
      rw [digitText_large fuel hlarge, List.length_append]
      exact Nat.add_le_add_right (ih hj hquot) 1

/-- No leading zero. -/
theorem digitText_head? {base : Nat} (hpos : 0 < base) (hten : base ≤ 10) {fuel n : Nat} (hn : n ≠ 0)
    (h : n < base ^ fuel) : (digitText base fuel n).head? ≠ some 0x30 := by
  induction fuel generalizing n with
  | zero => exact nofun
  | succ fuel ih =>
    rcases Nat.lt_or_ge n base with hsmall | hlarge
    · rw [digitText_small fuel hsmall, List.head?_cons, Ne, Option.some_inj, ← BitVec.toNat_inj,
        digitByte_toNat hten hsmall]
      change ¬ 0x30 + n = 0x30
      omega
    · have hquot : n / base < base ^ fuel := Nat.div_lt_of_lt_mul (by rwa [← Nat.pow_succ'])
      have hnext : n / base ≠ 0 := (Nat.div_pos hlarge hpos).ne'
      obtain ⟨j, rfl⟩ : ∃ j, fuel = j + 1 := Nat.exists_eq_add_one_of_ne_zero fun hfuel => by
        rw [hfuel] at hquot
        exact hnext (Nat.lt_one_iff.mp hquot)
      rw [digitText_large _ hlarge, List.head?_append_of_ne_nil _ (digitText_ne_nil _ _ _)]
      exact ih hnext hquot

theorem digitText_zero {base : Nat} (hpos : 0 < base) (fuel : Nat) : digitText base (fuel + 1) 0 = [0x30] :=
  digitText_small fuel hpos

/-- What the text of a number is, in a base up to 10 whose `k` digits hold every 32-bit number. -/
theorem digitText_word {base k : Nat} (htwo : 2 ≤ base) (hten : base ≤ 10) (hk : 0 < k) (hall : 2 ^ 32 ≤ base ^ k)
    (n : Word) (text : List Byte) (htext : text = digitText base 32 n.toNat) :
    text ≠ [] ∧ text.length ≤ k ∧ (∀ b ∈ text, Digit base b) ∧ textNumber base text = n.toNat
    ∧ (n ≠ 0 → text.head? ≠ some 0x30) ∧ (n = 0 → text = [0x30]) := by
  subst htext
  have hpos : 0 < base := by omega
  have hfuel : n.toNat < base ^ 32 := n.isLt.trans_le (Nat.pow_le_pow_left htwo 32)
  refine ⟨digitText_ne_nil _ _ _, digitText_length_le 32 hk (n.isLt.trans_le hall), digitText_digits hpos hten 32 _,
    textNumber_digitText hpos hten hfuel, fun hn => digitText_head? hpos hten ?_ hfuel, ?_⟩
  · exact fun hzero => hn (BitVec.eq_of_toNat_eq hzero)
  · rintro rfl
    exact digitText_zero hpos 31

theorem decAscii_text (n : Word) : decAscii n ≠ [] ∧ (decAscii n).length ≤ 10 ∧ (∀ b ∈ decAscii n, Digit 10 b)
    ∧ textNumber 10 (decAscii n) = n.toNat ∧ (n ≠ 0 → (decAscii n).head? ≠ some 0x30)
    ∧ (n = 0 → decAscii n = [0x30]) :=
  digitText_word (by decide) (by decide) (by decide) (by decide) n _ rfl

theorem octAscii_text (n : Word) : octAscii n ≠ [] ∧ (octAscii n).length ≤ 11 ∧ (∀ b ∈ octAscii n, Digit 8 b)
    ∧ textNumber 8 (octAscii n) = n.toNat ∧ (n ≠ 0 → (octAscii n).head? ≠ some 0x30)
    ∧ (n = 0 → octAscii n = [0x30]) :=
  digitText_word (by decide) (by decide) (by decide) (by decide) n _ rfl

theorem yb0Text_length_le (name : List Byte) (a t m : Word) : (yb0Text name a t m).length ≤ name.length + 36 := by
  obtain ⟨-, hsize, -⟩ := decAscii_text a
  obtain ⟨-, hmtime, -⟩ := octAscii_text t
  obtain ⟨-, hmode, -⟩ := octAscii_text m
  simp only [yb0Text, List.length_append, List.length_cons, List.length_nil]
  omega

/-- Settles O42: induction on the digits (`digitText_word`); every 32-bit number has at most 10 decimal and 11 octal
digits. -/
theorem numberTextIsShortAndReadsBack : Obligations.NumberTextIsShortAndReadsBack := by
  refine ⟨fun n => ?_, fun name a t m => ⟨yb0Text_length_le name a t m, fun hname => ?_⟩⟩
  · obtain ⟨hne, hshort, hdigits, hvalue, hhead, hzero⟩ := decAscii_text n
    exact ⟨hne, hshort, hdigits, hvalue, hhead, hzero, octAscii_text n⟩
  · have := yb0Text_length_le name a t m
    omega

end Sys2Proof.Machine
end

section
/-! What the Zmodem scans answer on the escaped or hex form of logical bytes (spec/44_parser.md R228 to R233): the
wire form of bytes in front of more input is read as those bytes, and the scan goes on behind them. A whole unit is
then judged by its two check values, and a cut or broken one ends with the code of the first byte that is wrong. -/

namespace Sys2Proof.Machine

/-! ## How a parser command ends, by its parse -/

theorem exec_of_parse_fault {i : Instr} (hi : isParser i = true) {s : State} {c : ResultCode} (hc : c ≠ .ok)
    (h : parse i s.cfg s.ibuf = .fault c) : exec i s = .next (ended c (encode i) s) := by
  rw [exec_parser hi, h]
  exact finish_other i c s hc

theorem exec_of_parse_compared {i : Instr} (hi : isParser i = true) {s : State} {c : ResultCode} {a b : Word}
    (hc : c ≠ .ok) (h : parse i s.cfg s.ibuf = .compared c a b) :
    exec i s = .next (ended c (encode i) (setCheckValues a b s)) := by
  rw [exec_parser hi, h]
  exact finish_other i c _ hc

theorem exec_of_parse_unit {i : Instr} (hi : isParser i = true) {s : State} {a b : Word} {report : Report}
    {payload : Option (List Byte)} {rest : List Byte} (h : parse i s.cfg s.ibuf = .unit a b report payload rest) :
    exec i s = .next (endedOk { putPayload payload (report.write (setCheckValues a b s)) with ibuf := rest }) := by
  rw [exec_parser hi, h]
  exact finish_ok i _

theorem ofNat_toNat_self {n : Nat} (x : BitVec n) : BitVec.ofNat n x.toNat = x :=
  (BitVec.ofNat_toNat n x).trans (BitVec.setWidth_eq x)

/-! ## Wire forms in front of more input (R229, R230, R233) -/

/-- Bytes in front of those a scan has read. -/
def prepend {α : Type} (l : List Byte) (p : List Byte × α) : List Byte × α := (l ++ p.1, p.2)

theorem map_prepend_nil {α : Type} (x : Except ResultCode (List Byte × α)) : x.map (prepend []) = x := by
  cases x <;> rfl

theorem map_cons_prepend {α : Type} (b : Byte) (l : List Byte) (x : Except ResultCode (List Byte × α)) :
    (x.map (prepend l)).map (fun p => (b :: p.1, p.2)) = x.map (prepend (b :: l)) := by
  cases x <;> rfl

/-- An escape sequence is read as its byte (R230). -/
theorem unescNext_sequence {c : Byte} (hc : c &&& 0x60 = 0x40) (w : List Byte) :
    unescNext (0x18 :: c :: w) = .ok (c ^^^ 0x40, w) :=
  unescNext_escape w ((validEscape_iff c).mpr hc)

theorem unescBytes_escapedAs {wire l : List Byte} (h : EscapedAs wire l) (n : Nat) (w : List Byte) :
    unescBytes (n + l.length) (wire ++ w) = (unescBytes n w).map (prepend l) := by
  induction h with
  | nil => exact (map_prepend_nil _).symm
  | plain b wire l hb _ ih =>
    rw [List.length_cons, ← Nat.add_assoc, List.cons_append, unescBytes_succ, unescNext_plain _ hb,
      ← map_cons_prepend, ← ih]
    rfl
  | escape c wire l hc _ ih =>
    rw [List.length_cons, ← Nat.add_assoc, List.cons_append, List.cons_append, unescBytes_succ,
      unescNext_sequence hc, ← map_cons_prepend, ← ih]
    rfl

theorem unescBytes_whole {wire l : List Byte} (h : EscapedAs wire l) {n : Nat} (hn : l.length = n) (w : List Byte) :
    unescBytes n (wire ++ w) = .ok (l, w) := by
  have hbytes := unescBytes_escapedAs h 0 w
  rw [Nat.zero_add, hn] at hbytes
  rw [hbytes]
  simp [unescBytes, Except.map, prepend]

/-- Too few logical bytes, and then one that cannot be read. -/
theorem unescBytes_cut {wire l : List Byte} (h : EscapedAs wire l) {n : Nat} (hn : l.length < n) {w : List Byte}
    {c : ResultCode} (hw : unescNext w = .error c) : unescBytes n (wire ++ w) = .error c := by
  obtain ⟨k, rfl⟩ := Nat.exists_eq_add_of_lt hn
  rw [show l.length + k + 1 = (k + 1) + l.length by omega, unescBytes_escapedAs h, unescBytes_succ, hw]
  rfl

theorem hexval_hexDigits : ∀ k < 16, hexval (hexDigits.getD k 0) = some k := by
  decide

theorem mem_hexDigits_iff : ∀ b : Byte, b ∈ hexDigits ↔ (hexval b).isSome = true := by
  decide

theorem hexBytes_hexWire (l : List Byte) (n : Nat) (w : List Byte) :
    hexBytes (n + l.length) (hexWire l ++ w) = (hexBytes n w).map (prepend l) := by
  induction l with
  | nil => exact (map_prepend_nil _).symm
  | cons b l ih =>
    have hhigh := hexval_hexDigits (b.toNat / 16) (by omega)
    have hlow := hexval_hexDigits (b.toNat % 16) (by omega)
    have hbyte : BitVec.ofNat 8 (16 * (b.toNat / 16) + b.toNat % 16) = b := by
      rw [Nat.div_add_mod]
      exact ofNat_toNat_self b
    rw [List.length_cons, ← Nat.add_assoc, hexWire, List.cons_append, List.cons_append, hexBytes_cons hhigh hlow,
      hbyte, ih, map_cons_prepend]

theorem hexBytes_whole {l : List Byte} {n : Nat} (hn : l.length = n) (w : List Byte) :
    hexBytes n (hexWire l ++ w) = .ok (l, w) := by
  have hbytes := hexBytes_hexWire l 0 w
  rw [Nat.zero_add, hn] at hbytes
  rw [hbytes]
  simp [hexBytes, Except.map, prepend]

/-- Too few logical bytes, and then one that cannot be read. -/
theorem hexBytes_cut {l : List Byte} {n : Nat} (hn : l.length < n) {w : List Byte} {c : ResultCode}
    (hw : ∀ k, hexBytes (k + 1) w = .error c) : hexBytes n (hexWire l ++ w) = .error c := by
  obtain ⟨k, rfl⟩ := Nat.exists_eq_add_of_lt hn
  rw [show l.length + k + 1 = (k + 1) + l.length by omega, hexBytes_hexWire, hw]
  rfl

theorem isMarker_iff (m : Byte) : isMarker m = true ↔ 0x68 ≤ m.toNat ∧ m.toNat ≤ 0x6B := by
  simp [isMarker]

/-- No marker is in the valid escape set (R207, R177). -/
theorem isMarker_of_escape : ∀ c : Byte, c &&& 0x60 = 0x40 → isMarker c = false := by
  decide

theorem scanPayload_escapedAs {wire d : List Byte} (h : EscapedAs wire d) (n : Nat) (hn : n + d.length ≤ 1024)
    (w : List Byte) : scanPayload n (wire ++ w) = (scanPayload (n + d.length) w).map (prepend d) := by
  induction h generalizing n with
  | nil => exact (map_prepend_nil _).symm
  | plain b wire d hb _ ih =>
    rw [List.length_cons] at hn ⊢
    have hroom : n ≠ 1024 := by omega
    rw [List.cons_append, scanPayload_plain hb hroom, ih (n + 1) (by omega), consPayload_eq_map, map_cons_prepend,
      show n + 1 + d.length = n + (d.length + 1) by omega]
  | escape c wire d hc _ ih =>
    rw [List.length_cons] at hn ⊢
    have hroom : n ≠ 1024 := by omega
    have hescape := scanPayload_escape (isMarker_of_escape c hc) ((validEscape_iff c).mpr hc) hroom (wire ++ w)
    rw [ih (n + 1) (by omega), consPayload_eq_map, map_cons_prepend,
      show n + 1 + d.length = n + (d.length + 1) by omega] at hescape
    exact hescape

/-! ## Check values as numbers (R41, R88) -/

theorem crc16Received_eq {cb : List Byte} (h : cb.length = 2) : crc16Received cb = BitVec.ofNat 32 (bigEndian cb) := by
  obtain ⟨hi, lo, rfl⟩ := List.length_eq_two.mp h
  rw [crc16Received, ← BitVec.ofNat_toNat, halfOf_toNat]
  simp [byteAt, bigEndian]

theorem wordOf_eq_littleEndian (b3 b2 b1 b0 : Byte) :
    wordOf b3 b2 b1 b0 = BitVec.ofNat 32 (littleEndian [b0, b1, b2, b3]) := by
  have hbytes : (wordOf b3 b2 b1 b0).toNat = littleEndian [b0, b1, b2, b3] := by
    simp only [wordOf, toNat_append_add, littleEndian]
    omega
  rw [← hbytes]
  exact (ofNat_toNat_self _).symm

theorem exists_of_length_eq_four {l : List Byte} (h : l.length = 4) : ∃ b0 b1 b2 b3, l = [b0, b1, b2, b3] :=
  match l, h with
  | [b0, b1, b2, b3], _ => ⟨b0, b1, b2, b3, rfl⟩

theorem crc32Received_eq {cb : List Byte} (h : cb.length = 4) :
    crc32Received cb = BitVec.ofNat 32 (littleEndian cb) := by
  obtain ⟨b0, b1, b2, b3, rfl⟩ := exists_of_length_eq_four h
  exact wordOf_eq_littleEndian b3 b2 b1 b0

theorem littleEndian_lt (d : List Byte) : littleEndian d < 256 ^ d.length := by
  induction d with
  | nil => exact Nat.one_pos
  | cons b d ih =>
    have hb := b.isLt
    rw [littleEndian, List.length_cons, Nat.pow_succ']
    omega

/-- The check value of a CRC width over bytes, as a number (R208, R232). -/
def crcNumber (wide : Bool) (d : List Byte) : Nat := if wide then (crc32 d).toNat else (crc16 d 0x0000).toNat

/-- Check bytes of a CRC width as a number: a CRC-32 least, a CRC-16 most significant byte first (R88). -/
def crcBytesNumber (wide : Bool) (cb : List Byte) : Nat := if wide then littleEndian cb else bigEndian cb

theorem crcNumber_lt (wide : Bool) (d : List Byte) : crcNumber wide d < 2 ^ 32 := by
  cases wide with
  | false => exact (crc16 d 0x0000).isLt.trans (by decide)
  | true => exact (crc32 d).isLt

theorem crcBytesNumber_lt {wide : Bool} {cb : List Byte} (h : cb.length = subpacketCrcLength wide) :
    crcBytesNumber wide cb < 2 ^ 32 := by
  cases wide with
  | false =>
    have hlt := bigEndian_lt cb
    rw [h] at hlt
    exact hlt.trans (by decide)
  | true =>
    have hlt := littleEndian_lt cb
    rw [h] at hlt
    exact hlt

/-- Both check values fit a register, so they are equal as register words exactly as numbers. -/
theorem crcWords_eq_iff {wide : Bool} (d : List Byte) {cb : List Byte} (h : cb.length = subpacketCrcLength wide) :
    BitVec.ofNat 32 (crcNumber wide d) = BitVec.ofNat 32 (crcBytesNumber wide cb)
      ↔ crcNumber wide d = crcBytesNumber wide cb := by
  rw [← BitVec.toNat_inj, BitVec.toNat_ofNat, BitVec.toNat_ofNat, Nat.mod_eq_of_lt (crcNumber_lt wide d),
    Nat.mod_eq_of_lt (crcBytesNumber_lt h)]

theorem crcComputed_eq (wide : Bool) (d : List Byte) :
    (if wide then crc32 d else (crc16 d Config.crc16Init).setWidth 32) = BitVec.ofNat 32 (crcNumber wide d) := by
  cases wide with
  | false => exact (BitVec.ofNat_toNat ..).symm
  | true => exact (ofNat_toNat_self _).symm

theorem crcReceived_eq {wide : Bool} {cb : List Byte} (h : cb.length = subpacketCrcLength wide) :
    (if wide then crc32Received cb else crc16Received cb) = BitVec.ofNat 32 (crcBytesNumber wide cb) := by
  cases wide with
  | false => exact crc16Received_eq h
  | true => exact crc32Received_eq h

end Sys2Proof.Machine
end

section
/-! `FP.ZHDR` and `FP.ZDAT` (spec/44_parser.md R228 to R233) on every shape of input: a whole unit is scanned and then
judged by its check values, everything else ends with the fault its scan meets. -/

namespace Sys2Proof.Machine

/-! ## A header's scan (R228 to R232) -/

theorem scanHeader_behind_pads (k : Nat) {b : Byte} (hb : b ≠ 0x2A) (w : List Byte) :
    scanHeader (List.replicate (k + 1) 0x2A ++ b :: w) = scanAfterPads (b :: w) :=
  scanHeader_pads k fun hpad => hb (Option.some_inj.mp hpad)

/-- Behind pads and introducer the letter's body is scanned. -/
theorem scanHeader_letter (k : Nat) (e : Byte) (w : List Byte) :
    scanHeader (List.replicate (k + 1) 0x2A ++ 0x18 :: e :: w) = scanHeaderBody e w :=
  (scanHeader_behind_pads k (by decide) _).trans (scanAfterPads_letter e w)

theorem scanHeader_notPad {b : Byte} (hb : b ≠ 0x2A) (w : List Byte) :
    scanHeader (b :: w) = .error .invalidFrameEncoding :=
  if_pos hb

theorem scanAfterPads_notIntroducer {b : Byte} (hb : b ≠ 0x18) (w : List Byte) :
    scanAfterPads (b :: w) = .error .invalidFrameEncoding := by
  simp only [scanAfterPads]
  exact if_pos hb

theorem scanHeaderBody_unknown {e : Byte} (he : e ∉ [0x41, 0x42, 0x43]) (w : List Byte) :
    scanHeaderBody e w = .error .invalidFrameEncoding := by
  simp only [List.mem_cons, List.not_mem_nil, or_false, not_or] at he
  obtain ⟨hbin, hhex, hbin32⟩ := he
  exact (if_neg hhex).trans ((if_neg hbin).trans (if_neg hbin32))

/-- The three forms of a whole header: the letter, and the wire form of the logical bytes (R204 to R206). -/
def HeaderForm (enc : ZEncoding) (e : Byte) (wire l : List Byte) : Prop :=
  (enc = .hex ∧ e = 0x42 ∧ wire = hexWire l ∧ l.length = 7)
  ∨ (enc = .bin16 ∧ e = 0x41 ∧ EscapedAs wire l ∧ l.length = 7)
  ∨ (enc = .bin32 ∧ e = 0x43 ∧ EscapedAs wire l ∧ l.length = 9)

/-- The encoding with a CRC-32. -/
def wideEncoding (enc : ZEncoding) : Bool := decide (enc = .bin32)

/-- What the scan of a whole header holds. -/
def wholeHeader (enc : ZEncoding) (l rest : List Byte) : ScannedHeader :=
  { enc, logical := l, computed := BitVec.ofNat 32 (crcNumber (wideEncoding enc) (l.take 5))
    received := BitVec.ofNat 32 (crcBytesNumber (wideEncoding enc) (l.drop 5)), rest }

theorem HeaderForm.check_length {enc : ZEncoding} {e : Byte} {wire l : List Byte} (h : HeaderForm enc e wire l) :
    5 ≤ l.length ∧ (l.drop 5).length = subpacketCrcLength (wideEncoding enc) := by
  rcases h with ⟨rfl, -, -, hl⟩ | ⟨rfl, -, -, hl⟩ | ⟨rfl, -, -, hl⟩ <;> rw [List.length_drop, hl] <;> decide

theorem scanned16_eq {enc : ZEncoding} (henc : wideEncoding enc = false) {l : List Byte} (hl : (l.drop 5).length = 2)
    (rest : List Byte) : scanned16 enc l rest = wholeHeader enc l rest := by
  rw [scanned16, wholeHeader, henc, crc16Received_eq hl, ← BitVec.ofNat_toNat]
  rfl

theorem scanned32_eq {l : List Byte} (hl : (l.drop 5).length = 4) (rest : List Byte) :
    scanned32 l rest = wholeHeader .bin32 l rest := by
  rw [scanned32, wholeHeader, crc32Received_eq hl, ← ofNat_toNat_self (crc32 _)]
  rfl

theorem scanHeaderBody_whole {enc : ZEncoding} {e : Byte} {wire l : List Byte} (h : HeaderForm enc e wire l)
    (rest : List Byte) : scanHeaderBody e (wire ++ rest) = .ok (wholeHeader enc l rest) := by
  obtain ⟨-, hcheck⟩ := h.check_length
  rcases h with ⟨rfl, rfl, rfl, hl⟩ | ⟨rfl, rfl, hwire, hl⟩ | ⟨rfl, rfl, hwire, hl⟩
  · refine (scanHeaderBody_hex _).trans ?_
    rw [hexBytes_whole hl, Except.map, scanned16_eq rfl hcheck]
  · refine (scanHeaderBody_bin16 _).trans ?_
    rw [unescBytes_whole hwire hl, Except.map, scanned16_eq rfl hcheck]
  · refine (scanHeaderBody_bin32 _).trans ?_
    rw [unescBytes_whole hwire hl, Except.map, scanned32_eq hcheck]

/-! ## FP.ZHDR on a whole header (R231, R232) -/

theorem headerVerdict_mismatch {u : ScannedHeader} (h : u.computed ≠ u.received) :
    headerVerdict u = .compared .crcMismatch u.computed u.received :=
  if_pos h

theorem headerVerdict_badType {u : ScannedHeader} (h : u.computed = u.received)
    (htype : 19 < (byteAt u.logical 0).toNat) :
    headerVerdict u = .compared .invalidFrameType u.computed u.received :=
  (if_neg (not_not.mpr h)).trans (if_pos htype)

theorem headerVerdict_ok {u : ScannedHeader} (h : u.computed = u.received)
    (htype : (byteAt u.logical 0).toNat ≤ 19) : headerVerdict u = .unit u.computed u.received
      (.header ((byteAt u.logical 0).setWidth 5) u.enc
        (wordOf (byteAt u.logical 4) (byteAt u.logical 3) (byteAt u.logical 2) (byteAt u.logical 1))) none u.rest :=
  (if_neg (not_not.mpr h)).trans (if_neg (Nat.not_lt.mpr htype))

theorem exists_of_length_ge_five {l : List Byte} (h : 5 ≤ l.length) :
    ∃ t b0 b1 b2 b3 check, l = t :: b0 :: b1 :: b2 :: b3 :: check :=
  match l, h with
  | t :: b0 :: b1 :: b2 :: b3 :: check, _ => ⟨t, b0, b1, b2, b3, check, rfl⟩

theorem parse_fpZhdr_whole (g : Cfg) {enc : ZEncoding} {e : Byte} {wire l : List Byte} (h : HeaderForm enc e wire l)
    (k : Nat) (rest : List Byte) :
    parse .fpZhdr g (List.replicate (k + 1) 0x2A ++ [0x18, e] ++ wire ++ rest) =
      headerVerdict (wholeHeader enc l rest) := by
  rw [List.append_assoc, List.append_assoc]
  exact congrArg (judged headerVerdict) ((scanHeader_letter k e _).trans (scanHeaderBody_whole h rest))

/-- A whole header with equal check values and an assigned type. -/
theorem exec_fpZhdr_ok {s : State} {k : Nat} {enc : ZEncoding} {e t b0 b1 b2 b3 : Byte} {wire check rest : List Byte}
    (hform : HeaderForm enc e wire (t :: b0 :: b1 :: b2 :: b3 :: check))
    (hibuf : s.ibuf = List.replicate (k + 1) 0x2A ++ [0x18, e] ++ wire ++ rest)
    (heq : crcNumber (wideEncoding enc) [t, b0, b1, b2, b3] = crcBytesNumber (wideEncoding enc) check)
    (htype : t.toNat ≤ 19) : exec .fpZhdr s = .next (endedOk { s with
      rxCrcCalc := BitVec.ofNat 32 (crcNumber (wideEncoding enc) [t, b0, b1, b2, b3])
      rxCrcRcvd := BitVec.ofNat 32 (crcBytesNumber (wideEncoding enc) check)
      rxDesc := { s.rxDesc with ztype := BitVec.ofNat 5 t.toNat, zenc := enc }
      rxZhdr := BitVec.ofNat 32 (littleEndian [b0, b1, b2, b3])
      ibuf := rest }) := by
  obtain ⟨-, hcheck⟩ := hform.check_length
  have hwords := crcWords_eq_iff [t, b0, b1, b2, b3] hcheck
  have hparse := parse_fpZhdr_whole s.cfg hform k rest
  rw [← hibuf] at hparse
  rw [exec_of_parse_unit rfl (hparse.trans (headerVerdict_ok (hwords.mpr heq) htype)), ← wordOf_eq_littleEndian,
    BitVec.ofNat_toNat]
  rfl

/-- Settles O47: each form of a whole header is scanned as its logical bytes (`scanHeaderBody_whole`); the verdict
compares register words as numbers (`crcWords_eq_iff`) and then judges the type. -/
theorem zmodemHeaderParsed : Obligations.ZmodemHeaderParsed := by
  intro s k enc e wire l rest (hform : HeaderForm enc e wire l) hibuf calculated received s1 ztype
  obtain ⟨hlong, hcheck⟩ := hform.check_length
  obtain ⟨t, b0, b1, b2, b3, check, rfl⟩ := exists_of_length_ge_five hlong
  have hcalculated : calculated = crcNumber (wideEncoding enc) [t, b0, b1, b2, b3] := by
    cases enc <;> rfl
  have hreceived : received = crcBytesNumber (wideEncoding enc) check := by
    cases enc <;> rfl
  have hwords := crcWords_eq_iff [t, b0, b1, b2, b3] hcheck
  have hparse := parse_fpZhdr_whole s.cfg hform k rest
  rw [← hibuf] at hparse
  subst s1
  rw [hcalculated, hreceived]
  refine ⟨fun hne => ?mismatch, fun heq htype => ?badType, fun heq htype => ?ok⟩
  case mismatch =>
    exact exec_of_parse_compared rfl (by decide) (hparse.trans (headerVerdict_mismatch (mt hwords.mp hne)))
  case badType =>
    exact exec_of_parse_compared rfl (by decide) (hparse.trans (headerVerdict_badType (hwords.mpr heq) htype))
  case ok => exact exec_fpZhdr_ok hform hibuf heq htype

/-! ## FP.ZHDR on what is no whole header (R228 to R230, R232) -/

theorem exec_fpZhdr_fault {s : State} {w : List Byte} {c : ResultCode} (hibuf : s.ibuf = w) (hc : c ≠ .ok)
    (h : scanHeader w = .error c) : exec .fpZhdr s = .next (ended c (encode .fpZhdr) s) :=
  exec_of_parse_fault rfl hc (by rw [parse, hibuf, h]; rfl)

theorem hexBytes_nil (n : Nat) : hexBytes (n + 1) [] = .error .incomplete := rfl

theorem hexBytes_notDigit {b : Byte} (hb : b ∉ hexDigits) (n : Nat) (w : List Byte) :
    hexBytes (n + 1) (b :: w) = .error .invalidFrameEncoding := by
  have hnone : hexval b = none := by simpa using mt (mem_hexDigits_iff b).mpr hb
  simp [hexBytes, hnone]

theorem hexBytes_half {a : Byte} (ha : a ∈ hexDigits) (n : Nat) : hexBytes (n + 1) [a] = .error .incomplete := by
  obtain ⟨d, hd⟩ := Option.isSome_iff_exists.mp ((mem_hexDigits_iff a).mp ha)
  simp [hexBytes, hd]

theorem hexBytes_secondNotDigit {a b : Byte} (ha : a ∈ hexDigits) (hb : b ∉ hexDigits) (n : Nat) (w : List Byte) :
    hexBytes (n + 1) (a :: b :: w) = .error .invalidFrameEncoding := by
  obtain ⟨d, hd⟩ := Option.isSome_iff_exists.mp ((mem_hexDigits_iff a).mp ha)
  have hnone : hexval b = none := by simpa using mt (mem_hexDigits_iff b).mpr hb
  simp [hexBytes, hd, hnone]

theorem unescNext_onlyIntroducer : unescNext [0x18] = .error .incomplete := rfl

theorem unescNext_badSequence {b : Byte} (hb : b &&& 0x60 ≠ 0x40) (w : List Byte) :
    unescNext (0x18 :: b :: w) = .error .invalidEscape :=
  unescNext_bad w (Bool.eq_false_iff.mpr (mt (validEscape_iff b).mp hb))

theorem scanHeader_hexCut (k : Nat) {l w : List Byte} {c : ResultCode} (hl : l.length < 7)
    (hw : ∀ n, hexBytes (n + 1) w = .error c) :
    scanHeader (List.replicate (k + 1) 0x2A ++ 0x18 :: 0x42 :: (hexWire l ++ w)) = .error c := by
  refine (scanHeader_letter k _ _).trans ((scanHeaderBody_hex _).trans ?_)
  rw [hexBytes_cut hl hw, Except.map]

theorem scanHeader_binaryCut (k : Nat) {e : Byte} {wire l w : List Byte} {c : ResultCode} (hwire : EscapedAs wire l)
    (he : (e = 0x41 ∧ l.length < 7) ∨ (e = 0x43 ∧ l.length < 9)) (hw : unescNext w = .error c) :
    scanHeader (List.replicate (k + 1) 0x2A ++ 0x18 :: e :: (wire ++ w)) = .error c := by
  refine (scanHeader_letter k e _).trans ?_
  rcases he with ⟨rfl, hl⟩ | ⟨rfl, hl⟩
  · refine (scanHeaderBody_bin16 _).trans ?_
    rw [unescBytes_cut hwire hl hw, Except.map]
  · refine (scanHeaderBody_bin32 _).trans ?_
    rw [unescBytes_cut hwire hl hw, Except.map]

/-- Settles O48: what stands behind the pads, and behind the logical bytes of a body, decides the fault. -/
theorem zmodemHeaderScanFaults : Obligations.ZmodemHeaderScanFaults := by
  intro s k l rest a b pads endsIn
  refine ⟨?start, fun hibuf hb => exec_fpZhdr_fault hibuf (by decide) (scanHeader_notPad hb rest),
    fun hibuf hpad hintro => ?notIntroducer, fun hibuf hletter => ?unknown, fun hl ha => ⟨?hexShort, fun hb => ?hexBad⟩,
    fun wire e hwire he => ⟨?binaryShort, fun hibuf hb => ?binaryBad⟩⟩
  case start =>
    rintro (hibuf | hibuf | hibuf)
    · exact exec_fpZhdr_fault hibuf (by decide) (scanHeader_only_pads 0)
    · exact exec_fpZhdr_fault hibuf (by decide) (scanHeader_only_pads (k + 1))
    · exact exec_fpZhdr_fault hibuf (by decide) (scanHeader_behind_pads k (by decide) [])
  case notIntroducer =>
    rw [List.append_assoc] at hibuf
    exact exec_fpZhdr_fault hibuf (by decide)
      ((scanHeader_behind_pads k hpad rest).trans (scanAfterPads_notIntroducer hintro rest))
  case unknown =>
    rw [List.append_assoc] at hibuf
    exact exec_fpZhdr_fault hibuf (by decide)
      ((scanHeader_letter k b rest).trans (scanHeaderBody_unknown hletter rest))
  case hexShort =>
    rintro (hibuf | hibuf)
    · rw [List.append_assoc, ← List.append_nil (hexWire l)] at hibuf
      exact exec_fpZhdr_fault hibuf (by decide) (scanHeader_hexCut k hl hexBytes_nil)
    · rw [List.append_assoc, List.append_assoc] at hibuf
      exact exec_fpZhdr_fault hibuf (by decide) (scanHeader_hexCut k hl (hexBytes_half ha))
  case hexBad =>
    rintro (hibuf | hibuf)
    · rw [List.append_assoc, List.append_assoc, List.append_assoc] at hibuf
      exact exec_fpZhdr_fault hibuf (by decide) (scanHeader_hexCut k hl fun n => hexBytes_notDigit hb n rest)
    · rw [List.append_assoc, List.append_assoc, List.append_assoc] at hibuf
      exact exec_fpZhdr_fault hibuf (by decide) (scanHeader_hexCut k hl fun n => hexBytes_secondNotDigit ha hb n rest)
  case binaryShort =>
    rintro (hibuf | hibuf)
    · rw [List.append_assoc, ← List.append_nil wire] at hibuf
      exact exec_fpZhdr_fault hibuf (by decide) (scanHeader_binaryCut (w := []) k hwire he rfl)
    · rw [List.append_assoc, List.append_assoc] at hibuf
      exact exec_fpZhdr_fault hibuf (by decide)
        (scanHeader_binaryCut (wire := wire) k hwire he unescNext_onlyIntroducer)
  case binaryBad =>
    rw [List.append_assoc, List.append_assoc, List.append_assoc] at hibuf
    exact exec_fpZhdr_fault hibuf (by decide)
      (scanHeader_binaryCut (wire := wire) k hwire he (unescNext_badSequence hb rest))

/-! ## FP.ZDAT on a whole subpacket (R233) -/

/-- Behind the payload and the marker the check bytes are read. -/
theorem scanData_marker (wide : Bool) {wire d : List Byte} (hwire : EscapedAs wire d) (hd : d.length ≤ 1024) {m : Byte}
    (hm : isMarker m = true) (w : List Byte) : scanData wide (wire ++ 0x18 :: m :: w) =
      (unescBytes (subpacketCrcLength wide) w).map fun q => subpacketOf wide d m q.1 q.2 := by
  rw [scanData_eq_bind, scanPayload_escapedAs hwire 0 (by omega)]
  have hmarker := scanPayload_marker hm (0 + d.length) w
  rw [Config.zdle] at hmarker
  rw [hmarker]
  simp only [Except.map, Except.bind, prepend, List.append_nil]

/-- What the scan of a whole subpacket holds. -/
def wholeSubpacket (wide : Bool) (d : List Byte) (m : Byte) (cb rest : List Byte) : ScannedData :=
  { payload := d, marker := m, computed := BitVec.ofNat 32 (crcNumber wide (d ++ [m]))
    received := BitVec.ofNat 32 (crcBytesNumber wide cb), rest }

theorem subpacketOf_eq {wide : Bool} (d : List Byte) (m : Byte) {cb : List Byte}
    (h : cb.length = subpacketCrcLength wide) (rest : List Byte) :
    subpacketOf wide d m cb rest = wholeSubpacket wide d m cb rest := by
  rw [subpacketOf, crcComputed_eq, crcReceived_eq h]
  rfl

theorem scanData_whole {wide : Bool} {wire d cw cb : List Byte} (hwire : EscapedAs wire d) (hd : d.length ≤ 1024)
    {m : Byte} (hm : isMarker m = true) (hcw : EscapedAs cw cb) (hcb : cb.length = subpacketCrcLength wide)
    (rest : List Byte) :
    scanData wide (wire ++ [0x18, m] ++ cw ++ rest) = .ok (wholeSubpacket wide d m cb rest) := by
  rw [List.append_assoc, List.append_assoc]
  refine (scanData_marker wide hwire hd hm (cw ++ rest)).trans ?_
  rw [unescBytes_whole hcw hcb, Except.map, subpacketOf_eq d m hcb]

theorem subpacketVerdict_mismatch {u : ScannedData} (h : u.computed ≠ u.received) :
    subpacketVerdict u = .compared .crcMismatch u.computed u.received :=
  if_pos h

theorem subpacketVerdict_ok {u : ScannedData} (h : u.computed = u.received) : subpacketVerdict u =
    .unit u.computed u.received (.subpacket ((u.marker - Config.markerBase).setWidth 2)) (some u.payload) u.rest :=
  if_neg (not_not.mpr h)

/-- The selector of a marker (R207). -/
theorem markerSelector_eq : ∀ m : Byte, isMarker m = true →
    (m - Config.markerBase).setWidth 2 = BitVec.ofNat 2 (m.toNat - 0x68) := by
  decide

/-- Settles O49: a whole subpacket is scanned as its payload, marker and check bytes (`scanData_whole`); the verdict
compares register words as numbers (`crcWords_eq_iff`). -/
theorem zmodemDataParsed : Obligations.ZmodemDataParsed := by
  intro s wire d cw cb rest m hwire hd hlow hhigh hcw hcb hibuf calculated received s1
  have hm : isMarker m = true := (isMarker_iff m).mpr ⟨hlow, hhigh⟩
  have hparse : parse .fpZdat s.cfg s.ibuf = subpacketVerdict (wholeSubpacket s.cfg.zcrcw d m cb rest) := by
    rw [parse, hibuf, scanData_whole hwire hd hm hcw hcb, judged]
  have hwords := crcWords_eq_iff (d ++ [m]) hcb
  subst s1
  refine ⟨fun hne => ?mismatch, fun heq => ?ok⟩
  case mismatch =>
    exact exec_of_parse_compared rfl (by decide) (hparse.trans (subpacketVerdict_mismatch (mt hwords.mp hne)))
  case ok =>
    rw [exec_of_parse_unit rfl (hparse.trans (subpacketVerdict_ok (hwords.mpr heq))), wholeSubpacket,
      markerSelector_eq m hm]
    rfl

/-! ## FP.ZDAT on what is no whole subpacket (R233) -/

theorem exec_fpZdat_fault {s : State} {w : List Byte} {c : ResultCode} (hibuf : s.ibuf = w) (hc : c ≠ .ok)
    (h : scanData s.cfg.zcrcw w = .error c) : exec .fpZdat s = .next (ended c (encode .fpZdat) s) :=
  exec_of_parse_fault rfl hc (by rw [parse, hibuf, h]; rfl)

theorem scanPayload_badSequence {b : Byte} (hmarker : isMarker b = false) (hb : b &&& 0x60 ≠ 0x40) (n : Nat)
    (w : List Byte) : scanPayload n (Config.zdle :: b :: w) = .error .invalidEscape := by
  have hinvalid : validEscape b = false := Bool.eq_false_iff.mpr (mt (validEscape_iff b).mp hb)
  rw [scanPayload, if_pos rfl]
  simp only [hmarker, hinvalid, Bool.false_eq_true, if_false]

theorem scanPayload_full_plain {b : Byte} (hb : b ≠ 0x18) (w : List Byte) :
    scanPayload 1024 (b :: w) = .error .overrun := by
  rw [scanPayload.eq_def]
  exact if_neg hb

theorem scanPayload_full_escape {b : Byte} (hb : b &&& 0x60 = 0x40) (w : List Byte) :
    scanPayload 1024 (Config.zdle :: b :: w) = .error .overrun := by
  rw [scanPayload, if_pos rfl]
  simp only [isMarker_of_escape b hb, (validEscape_iff b).mpr hb, Bool.false_eq_true, if_false, if_true]
  rfl

/-- The fault a scan meets behind the payload bytes. -/
theorem scanData_payloadFault (wide : Bool) {wire d w : List Byte} {c : ResultCode} (hwire : EscapedAs wire d)
    (hd : d.length ≤ 1024) (hw : scanPayload d.length w = .error c) : scanData wide (wire ++ w) = .error c := by
  rw [scanData_eq_bind, scanPayload_escapedAs hwire 0 (by omega), Nat.zero_add, hw]
  rfl

/-- The fault a scan meets behind the marker. -/
theorem scanData_checkFault {wide : Bool} {wire d cw cb w : List Byte} {m : Byte} {c : ResultCode}
    (hwire : EscapedAs wire d) (hd : d.length ≤ 1024) (hm : isMarker m = true) (hcw : EscapedAs cw cb)
    (hcb : cb.length < subpacketCrcLength wide) (hw : unescNext w = .error c) :
    scanData wide (wire ++ [0x18, m] ++ cw ++ w) = .error c := by
  rw [List.append_assoc, List.append_assoc]
  refine (scanData_marker wide hwire hd hm (cw ++ w)).trans ?_
  rw [unescBytes_cut hcw hcb hw, Except.map]

/-- Settles O50: what stands behind the payload bytes (`scanData_payloadFault`), and behind the marker and the check
bytes (`scanData_checkFault`), decides the fault. -/
theorem zmodemDataScanFaults : Obligations.ZmodemDataScanFaults := by
  intro s wire d rest b hwire hd endsIn
  refine ⟨?short, fun hibuf hmarker hb => ?bad, fun hfull => ⟨fun hibuf hb => ?overPlain, fun hibuf hb => ?overEscape⟩,
    fun m cw cb hlow hhigh hcw hcb => ⟨?checkShort, fun hibuf hb => ?checkBad⟩⟩
  case short =>
    rintro (hibuf | hibuf)
    · rw [← List.append_nil wire] at hibuf
      exact exec_fpZdat_fault hibuf (by decide) (scanData_payloadFault _ hwire hd rfl)
    · exact exec_fpZdat_fault hibuf (by decide) (scanData_payloadFault _ hwire hd (scanPayload_only_zdle _))
  case bad =>
    have hother : isMarker b = false := Bool.eq_false_iff.mpr (mt (isMarker_iff b).mp hmarker)
    rw [List.append_assoc] at hibuf
    exact exec_fpZdat_fault hibuf (by decide)
      (scanData_payloadFault _ hwire hd (scanPayload_badSequence hother hb _ rest))
  case overPlain =>
    rw [List.append_assoc] at hibuf
    exact exec_fpZdat_fault hibuf (by decide)
      (scanData_payloadFault _ hwire hd (hfull ▸ scanPayload_full_plain hb rest))
  case overEscape =>
    rw [List.append_assoc] at hibuf
    exact exec_fpZdat_fault hibuf (by decide)
      (scanData_payloadFault _ hwire hd (hfull ▸ scanPayload_full_escape hb rest))
  case checkShort =>
    have hm : isMarker m = true := (isMarker_iff m).mpr ⟨hlow, hhigh⟩
    rintro (hibuf | hibuf)
    · rw [← List.append_nil (wire ++ [0x18, m] ++ cw)] at hibuf
      exact exec_fpZdat_fault hibuf (by decide) (scanData_checkFault hwire hd hm hcw hcb rfl)
    · exact exec_fpZdat_fault hibuf (by decide) (scanData_checkFault hwire hd hm hcw hcb unescNext_onlyIntroducer)
  case checkBad =>
    have hm : isMarker m = true := (isMarker_iff m).mpr ⟨hlow, hhigh⟩
    rw [List.append_assoc] at hibuf
    exact exec_fpZdat_fault hibuf (by decide)
      (scanData_checkFault hwire hd hm hcw hcb (unescNext_badSequence hb rest))

end Sys2Proof.Machine
end

section
/-! The round trips (spec/44_parser.md R234): what a serializer command has put into an empty `OBUF` has the shape its
parser command takes whole, and the trailer writes the very value the parser computes. -/

namespace Sys2Proof.Machine

/-! ## Xmodem blocks -/

/-- What the scan of a serialized block holds: the trailer is the check value the parser computes. -/
def soundBlock (v : XVariant) (number : Byte) (p : List Byte) : ScannedBlock :=
  { number, payload := p, computed := BitVec.ofNat 32 (variantCheck v p)
    received := BitVec.ofNat 32 (variantCheck v p), rest := [] }

theorem scanBlock_blockImage {v : XVariant} (number : Byte) {p : List Byte} (hp : p.length = blockSize v) :
    scanBlock v (blockImage v number p) = .ok (soundBlock v number p) := by
  have hscan := scanBlock_present number (255 - number) [] hp (blockTrailer_length_eq_trailerLength v p)
  rwa [if_pos rfl, List.append_nil, wholeBlock, bigEndian_blockTrailer] at hscan

/-- Settles O52: the block is scanned as the padded payload with two equal check values (`scanBlock_blockImage`). -/
theorem xmodemRoundTrip : Obligations.XmodemRoundTrip := by
  intro s t r hempty hexec hok hibuf hvar
  obtain ⟨hfits, hobuf⟩ := exec_fsXblk_obuf hexec hok
  have hp := padTo_length 0x1A hfits
  rw [← blockSize_eq_variantShape] at hp
  rw [hempty, List.nil_append, ← hibuf] at hobuf
  have hscan := scanBlock_blockImage s.txDesc.blk hp
  rw [blockSize_eq_variantShape, ← hobuf, ← hvar] at hscan
  rw [← hvar]
  exact ⟨BitVec.ofNat 32 (variantCheck r.cfg.xvar _), exec_fpXblk_ok hscan rfl⟩

/-! ## Ymodem block 0 -/

/-- What follows a digit run of block 0 is no digit. -/
theorem wholeRun_decAscii (n : Word) {b : Byte} (hb : ¬ Digit 10 b) (tail : List Byte) :
    WholeRun 10 (decAscii n) (b :: tail) := by
  obtain ⟨hne, -, hdigits, -⟩ := decAscii_text n
  exact ⟨hne, hdigits, fun c hc => Option.some_inj.mp hc ▸ hb⟩

theorem wholeRun_octAscii (n : Word) {b : Byte} (hb : ¬ Digit 8 b) (tail : List Byte) :
    WholeRun 8 (octAscii n) (b :: tail) := by
  obtain ⟨hne, -, hdigits, -⟩ := octAscii_text n
  exact ⟨hne, hdigits, fun c hc => Option.some_inj.mp hc ▸ hb⟩

theorem textNumber_decAscii (n : Word) : textNumber 10 (decAscii n) = n.toNat := by
  obtain ⟨-, -, -, hvalue, -⟩ := decAscii_text n
  exact hvalue

theorem textNumber_octAscii (n : Word) : textNumber 8 (octAscii n) = n.toNat := by
  obtain ⟨-, -, -, hvalue, -⟩ := octAscii_text n
  exact hvalue

/-- The metadata behind the name of block 0, with the padding. -/
def yb0Tail (size mtime mode : Word) (padding : List Byte) : List Byte :=
  decAscii size ++ (0x20 :: (octAscii mtime ++ 0x20 :: (octAscii mode ++ 0x00 :: padding)))

theorem yb0Text_append (name : List Byte) (size mtime mode : Word) (padding : List Byte) :
    yb0Text name size mtime mode ++ padding = name ++ [0x00] ++ yb0Tail size mtime mode padding := by
  simp [yb0Text, yb0Tail]

theorem yb0Numbers_yb0Tail (size mtime mode : Word) (padding : List Byte) :
    yb0Numbers (yb0Tail size mtime mode padding) = [size.toNat, mtime.toNat, mode.toNat] := by
  have hmtime := octalNumbers_run (wholeRun_octAscii mtime (b := 0x20) (by decide)
    (octAscii mode ++ 0x00 :: padding)) 1
  have hmode := octalNumbers_run (wholeRun_octAscii mode (b := 0x00) (by decide) padding) 0
  rw [textNumber_octAscii, List.append_assoc] at hmtime hmode
  rw [yb0Tail, yb0Numbers_run (wholeRun_decAscii size (by decide) _), textNumber_decAscii]
  exact congrArg _ (hmtime.trans (congrArg _ hmode))

theorem yb0Fields_yb0Text {name : List Byte} (hne : name ≠ []) (hzero : 0x00 ∉ name) (size mtime mode : Word)
    (padding : List Byte) : yb0Fields (yb0Text name size mtime mode ++ padding) =
      { eob := false, nlen := name.length, numbers := [size.toNat, mtime.toNat, mode.toNat] } := by
  obtain ⟨b, hb⟩ := List.exists_mem_of_ne_nil name hne
  rw [yb0Text_append, yb0Fields_named hzero, yb0Numbers_yb0Tail]
  intro hzeros
  have hmem : b ∈ name ++ [0x00] ++ yb0Tail size mtime mode padding := by simp [hb]
  rw [hzeros] at hmem
  exact hzero (List.eq_of_mem_replicate hmem ▸ hb)

/-- The receiver of a block 0 that names a file (R224). -/
theorem exec_fpYb0_named {r : State} {name : List Byte} (hne : name ≠ []) (hzero : 0x00 ∉ name)
    (size mtime mode : Word) (hfits : (yb0Text name size mtime mode).length ≤ 128)
    (hibuf : r.ibuf = blockImage .crc 0x00 (padTo 128 0x00 (yb0Text name size mtime mode))) :
    ∃ u, exec .fpYb0 r = .next u ∧ u.result = .ok ∧ u.ibuf = []
      ∧ u.rxYnlen.toNat = name.length ∧ u.rxp.take name.length = name ∧ u.rxp.length = 128
      ∧ u.rxYsize = size ∧ u.rxYmtime = mtime ∧ u.rxYmode = mode
      ∧ u.rxDesc = { r.rxDesc with blk := 0, yeob := false, ysizeP := true, ymtimeP := true, ymodeP := true,
                                   yovf := false } := by
  have hp := padTo_length 0x00 hfits
  have hscan := scanBlock_blockImage (v := .crc) 0x00 hp
  rw [← hibuf] at hscan
  have hexec := (exec_fpYb0_sound hscan rfl).trans (congrArg Host.Outcome.next (if_pos rfl))
  have hfields : yb0Fields (padTo 128 0x00 (yb0Text name size mtime mode)) =
      { eob := false, nlen := name.length, numbers := [size.toNat, mtime.toNat, mode.toNat] } :=
    yb0Fields_yb0Text hne hzero ..
  have hname : (padTo 128 0x00 (yb0Text name size mtime mode)).take name.length = name := by
    rw [padTo, yb0Text_append, List.append_assoc]
    exact List.take_left' rfl
  have hlength : name.length < 2 ^ 8 := by
    simp only [yb0Text, List.length_append] at hfits
    omega
  have hoverflow : yb0Overflow { eob := false, nlen := name.length, numbers := [size.toNat, mtime.toNat, mode.toNat] }
      = false := by
    simp [yb0Overflow, Nat.not_le.mpr size.isLt, Nat.not_le.mpr mtime.isLt, Nat.not_le.mpr mode.isLt]
  have hregisters : setYb0 (yb0Fields (soundBlock .crc 0x00 (padTo 128 0x00 (yb0Text name size mtime mode))).payload) =
      setYb0 { eob := false, nlen := name.length, numbers := [size.toNat, mtime.toNat, mode.toNat] } :=
    congrArg setYb0 hfields
  rw [hregisters, setYb0, hoverflow] at hexec
  exact ⟨_, hexec, rfl, rfl, Nat.mod_eq_of_lt hlength, hname, hp, ofNat_toNat_self size, ofNat_toNat_self mtime,
    ofNat_toNat_self mode, rfl⟩

/-- The receiver of the block that ends a batch. -/
theorem exec_fpYb0_endOfBatch {r : State}
    (hibuf : r.ibuf = [0x01, 0x00, 0xFF] ++ List.replicate 128 0x00 ++ [0x00, 0x00]) :
    ∃ u, exec .fpYb0 r = .next u ∧ u.result = .ok ∧ u.ibuf = [] ∧ u.rxDesc.yeob = true
      ∧ u.rxp = List.replicate 128 0x00 := by
  have himage : [0x01, 0x00, 0xFF] ++ List.replicate 128 0x00 ++ [0x00, 0x00] =
      blockImage .crc 0x00 (List.replicate 128 0x00) := by
    rw [blockImage, blockTrailer, Config.crc16Init, crc16_zeros]
    rfl
  have hscan := scanBlock_blockImage (v := .crc) 0x00 (p := List.replicate 128 0x00) List.length_replicate
  rw [← himage, ← hibuf] at hscan
  have hexec := (exec_fpYb0_sound hscan rfl).trans (congrArg Host.Outcome.next (if_pos rfl))
  rw [soundBlock, yb0Fields_zeros] at hexec
  exact ⟨_, hexec, rfl, rfl, rfl, rfl⟩

/-- Settles O53: the block is scanned as its text padded with zeros, whose fields are the name and the three numbers
(`yb0Fields_yb0Text`). -/
theorem ymodemRoundTrip : Obligations.YmodemRoundTrip := by
  refine ⟨fun s t r hempty hexec hok hibuf => ?_, fun s t r hempty hexec hibuf => ?_⟩
  · obtain ⟨w, hunit, hobuf⟩ := serializer_obuf (by decide) hexec hok
    obtain ⟨hne, hzero, hfits, rfl⟩ := unitImage_yb0 hunit
    rw [hempty, List.nil_append] at hobuf
    exact exec_fpYb0_named hne hzero _ _ _ hfits (hibuf.trans hobuf)
  · have hroom : s.obuf.length + 133 ≤ 4096 := by
      rw [hempty]
      decide
    rw [← endOfBatch_length] at hroom
    rw [exec_serializer_emits (by decide) rfl hroom] at hexec
    cases hexec
    refine exec_fpYb0_endOfBatch (hibuf.trans ?_)
    exact congrArg (· ++ _) hempty

end Sys2Proof.Machine
end

section
/-! The Zmodem round trips (spec/44_parser.md R234, header and subpacket rows): a serialized header or subpacket has the
shape the parser takes whole, whatever the escape set, since escaped bytes stand for the bytes
(`escapedAs_wireBytes`). -/

namespace Sys2Proof.Machine

/-! ## Check bytes on the wire -/

/-- The check bytes over bytes, of a CRC width (R208). -/
def crcBytes (wide : Bool) (d : List Byte) : List Byte :=
  if wide then wordBytes (crc32 d) else crc16Bytes (crc16 d Config.crc16Init)

theorem crcBytes_length (wide : Bool) (d : List Byte) : (crcBytes wide d).length = subpacketCrcLength wide := by
  cases wide <;> rfl

theorem crcBytesNumber_crcBytes (wide : Bool) (d : List Byte) :
    crcBytesNumber wide (crcBytes wide d) = crcNumber wide d := by
  cases wide with
  | false => exact bigEndian_crc16Bytes _
  | true => exact littleEndian_wordBytes _

/-! ## Headers -/

/-- The logical bytes of a serialized header. -/
def headerBytes (enc : ZEncoding) (t : Byte) (h : Word) : List Byte :=
  headerBody t h ++ crcBytes (wideEncoding enc) (headerBody t h)

/-- What stands behind a header: a hex header's line end (R204). -/
def headerTail (enc : ZEncoding) (t : Byte) : List Byte :=
  if enc = .hex then [0x0D, 0x0A] ++ hexTail t else []

theorem headerImage_form (s : State) (enc : ZEncoding) (t : Byte) (h : Word) :
    ∃ k e wire, HeaderForm enc e wire (headerBytes enc t h)
      ∧ headerImage s enc t h = List.replicate (k + 1) 0x2A ++ [0x18, e] ++ wire ++ headerTail enc t := by
  cases enc with
  | hex =>
    refine ⟨1, 0x42, hexWire (headerBytes .hex t h), .inl ⟨rfl, rfl, rfl, rfl⟩, ?_⟩
    rw [headerImage, zhex, flatMap_hex2, List.append_assoc]
    rfl
  | bin16 =>
    refine ⟨0, 0x41, wireBytes s (headerBytes .bin16 t h) Config.zbin,
      .inr (.inl ⟨rfl, rfl, escapedAs_wireBytes .., rfl⟩), ?_⟩
    exact (List.append_nil _).symm
  | bin32 =>
    refine ⟨0, 0x43, wireBytes s (headerBytes .bin32 t h) Config.zbin32Letter,
      .inr (.inr ⟨rfl, rfl, escapedAs_wireBytes .., rfl⟩), ?_⟩
    exact (List.append_nil _).symm

theorem unitImage_zhdr {s : State} {w : List Byte} (h : unitImage s .fsZhdr = .ok w) :
    s.txDesc.ztype.toNat ≤ 19 ∧ w = headerImage s s.txDesc.zenc (s.txDesc.ztype.setWidth 8) s.txZhdr := by
  rw [unitImage] at h
  split at h <;> cases h
  next htype => exact ⟨Nat.not_lt.mp htype, rfl⟩

theorem setWidth_ztype_eq_iff : ∀ z : BitVec 5,
    (z.setWidth 8 = (3 : Byte) ∨ z.setWidth 8 = (8 : Byte)) ↔ z = 3 ∨ z = 8 := by
  decide

theorem ofNat_ztype : ∀ z : BitVec 5, BitVec.ofNat 5 ((z.setWidth 8 : Byte)).toNat = z := by
  decide

theorem setWidth_ztype_toNat (z : BitVec 5) : (z.setWidth 8 : Byte).toNat = z.toNat :=
  BitVec.toNat_setWidth_of_le (by decide)

/-- The receiver of a header whose check values are equal. -/
theorem exec_fpZhdr_sound {r : State} {k : Nat} {enc : ZEncoding} {e t : Byte} {h : Word} {wire rest : List Byte}
    (hform : HeaderForm enc e wire (headerBytes enc t h)) (ht : t.toNat ≤ 19)
    (hibuf : r.ibuf = List.replicate (k + 1) 0x2A ++ [0x18, e] ++ wire ++ rest) :
    exec .fpZhdr r = .next (endedOk { r with
      rxCrcCalc := BitVec.ofNat 32 (crcNumber (wideEncoding enc) (headerBody t h))
      rxCrcRcvd := BitVec.ofNat 32 (crcBytesNumber (wideEncoding enc) (crcBytes (wideEncoding enc) (headerBody t h)))
      rxDesc := { r.rxDesc with ztype := BitVec.ofNat 5 t.toNat, zenc := enc }
      rxZhdr := h
      ibuf := rest }) := by
  have hheader := exec_fpZhdr_ok hform hibuf (crcBytesNumber_crcBytes ..).symm ht
  have hbytes : BitVec.ofNat 32 (littleEndian (wordBytes h)) = h := by
    rw [littleEndian_wordBytes, ofNat_toNat_self]
  rw [wordBytes] at hbytes
  rw [hheader, hbytes]
  rfl

/-- Settles O54: the image is a whole header of its encoding (`headerImage_form`) with equal check values
(`exec_fpZhdr_sound`). -/
theorem zmodemHeaderRoundTrip : Obligations.ZmodemHeaderRoundTrip := by
  intro s t r hempty hexec hok hibuf
  obtain ⟨w, hunit, hobuf⟩ := serializer_obuf (by decide) hexec hok
  obtain ⟨htype, rfl⟩ := unitImage_zhdr hunit
  obtain ⟨k, e, wire, hform, himage⟩ := headerImage_form s s.txDesc.zenc (s.txDesc.ztype.setWidth 8) s.txZhdr
  rw [hempty, List.nil_append, himage] at hobuf
  rw [← setWidth_ztype_toNat] at htype
  have hsound := exec_fpZhdr_sound hform htype (hibuf.trans hobuf)
  rw [crcBytesNumber_crcBytes, ofNat_ztype, headerTail, hexTail] at hsound
  simp only [setWidth_ztype_eq_iff] at hsound
  exact ⟨_, hsound⟩

/-! ## Subpackets -/

theorem markerByte_marker : ∀ zend : BitVec 2, 0x68 ≤ (markerByte zend).toNat ∧ (markerByte zend).toNat ≤ 0x6B := by
  decide

theorem ofNat_markerByte : ∀ zend : BitVec 2, BitVec.ofNat 2 ((markerByte zend).toNat - 0x68) = zend := by
  decide

/-- The receiver of a subpacket whose check values are equal. -/
theorem exec_fpZdat_sound {r : State} {wire d cw cb rest : List Byte} {m : Byte} (hwire : EscapedAs wire d)
    (hd : d.length ≤ 1024) (hm : 0x68 ≤ m.toNat ∧ m.toNat ≤ 0x6B)
    (hcw : EscapedAs cw cb) (hcb : cb = crcBytes r.cfg.zcrcw (d ++ [m]))
    (hibuf : r.ibuf = wire ++ [0x18, m] ++ cw ++ rest) :
    exec .fpZdat r = .next (endedOk { r with
      rxCrcCalc := BitVec.ofNat 32 (crcNumber r.cfg.zcrcw (d ++ [m]))
      rxCrcRcvd := BitVec.ofNat 32 (crcBytesNumber r.cfg.zcrcw (crcBytes r.cfg.zcrcw (d ++ [m])))
      rxDesc := { r.rxDesc with zend := BitVec.ofNat 2 (m.toNat - 0x68) }
      rxp := d
      ibuf := rest }) := by
  subst hcb
  obtain ⟨hlow, hhigh⟩ := hm
  have hcheck := crcBytesNumber_crcBytes r.cfg.zcrcw (d ++ [m])
  obtain ⟨-, hparsed⟩ := zmodemDataParsed r wire d cw _ rest m hwire hd hlow hhigh hcw (crcBytes_length ..) hibuf
  exact hparsed hcheck.symm

/-- Settles O55: the image is a whole subpacket of the payload (`escapedAs_wireBytes`) with equal check values
(`exec_fpZdat_sound`). -/
theorem zmodemDataRoundTrip : Obligations.ZmodemDataRoundTrip := by
  intro s t r hempty htxp hexec hok hibuf hwide
  obtain ⟨w, hunit, hobuf⟩ := serializer_obuf (by decide) hexec hok
  cases hunit
  rw [hempty, List.nil_append, ← hibuf, zsub, ← hwide] at hobuf
  have hsound := exec_fpZdat_sound (escapedAs_wireBytes s s.txp s.zstate.zeLast) htxp (markerByte_marker s.txDesc.zend)
    (escapedAs_wireBytes s _ _) rfl (hobuf.trans (List.append_nil _).symm)
  rw [crcBytesNumber_crcBytes, ofNat_markerByte] at hsound
  exact ⟨_, hsound⟩

end Sys2Proof.Machine
end

section
/-! The retry budget (spec/45_retry_timeout.md R257, R259): a failed attempt, corrupt or expired, counts one and
exhausts the budget exactly when the new count reaches `MAX`; so lists of attempts are counted by induction. -/

namespace Sys2Proof.Machine

/-! ## One failed attempt -/

/-- From `s` to `t` one failure was counted, which reports `c` while budget remains (R254 to R256). -/
def CountedFailure (c : ResultCode) (s t : State) : Prop :=
  t.rtMax = s.rtMax ∧ t.rtTmo = s.rtTmo
  ∧ t.rtStat = { cnt := s.rtStat.cnt + 1, armed := false
                 exh := decide (s.rtMax.toNat ≤ (s.rtStat.cnt + 1).toNat) }
  ∧ t.result = if s.rtMax.toNat ≤ (s.rtStat.cnt + 1).toNat then .maxRetriesExceeded else c

theorem finishBump_counts (i : Instr) (c : ResultCode) {s : State} (hexh : s.rtStat.exh = false) :
    ∃ t, finishBump i c s = .next t ∧ CountedFailure c s t := by
  rcases Nat.lt_or_ge (s.rtStat.cnt + 1).toNat s.rtMax.toNat with hbelow | hreaches
  · refine ⟨_, finishBump_below i c hexh hbelow, rfl, rfl, ?_, (if_neg (Nat.not_le.mpr hbelow)).symm⟩
    rw [decide_eq_false (Nat.not_le.mpr hbelow)]
    rfl
  · refine ⟨_, finishBump_reaches i c hreaches, rfl, rfl, ?_, (if_pos hreaches).symm⟩
    rw [decide_eq_true hreaches]
    rfl

/-- The state in which an expiring wait is polled: armed at one time, with the time input at another (R252, R255). -/
def waiting (a p : Time) (s : State) : State :=
  { s with
    result := .ok, now := p, rtDl := BitVec.ofNat 64 (a.toNat + s.rtTmo.toNat)
    rtStat := { s.rtStat with armed := true } }

theorem countFailure_expiry (a p : Time) {s : State} (hexh : s.rtStat.exh = false) :
    countFailure (.expiry a p) s = exec .rtPoll (waiting a p s) := by
  rw [countFailure, exec_rtArm_remaining (s := { s with now := a }) hexh]
  rfl

theorem countFailure_counts {f : Failure} {s : State} (hexh : s.rtStat.exh = false) (hreal : failureReal s.rtTmo f) :
    ∃ t, countFailure f s = .next t ∧ CountedFailure (failureReport f) s t := by
  cases f with
  | corrupt =>
    rw [countFailure, exec_rtFail_remaining hexh]
    exact finishBump_counts .rtFail .ok hexh
  | expiry a p =>
    have hdeadline : (waiting a p s).rtDl.toNat = a.toNat + s.rtTmo.toNat :=
      (BitVec.toNat_ofNat ..).trans (Nat.mod_eq_of_lt (Nat.lt_of_le_of_lt hreal p.isLt))
    rw [countFailure_expiry a p hexh, exec_rtPoll_passed (s := waiting a p s) hexh rfl (hdeadline.trans_le hreal)]
    exact finishBump_counts .rtPoll .timeout (s := waiting a p s) hexh

/-- An exhausted budget stays exhausted (R252, R254, R255). -/
theorem countFailure_exhausted (f : Failure) {s : State} (hexh : s.rtStat.exh = true) :
    ∃ t, countFailure f s = .next t ∧ t.rtStat.exh = true := by
  cases f with
  | corrupt => exact ⟨_, exec_rtFail_exhausted hexh, hexh⟩
  | expiry a p =>
    have harm := exec_rtArm_exhausted (s := { s with now := a }) hexh
    rw [countFailure, harm]
    exact ⟨_, exec_rtPoll_exhausted hexh, hexh⟩

/-! ## Failed attempts one after the other -/

theorem countFailures_cons {f : Failure} {s t : State} (h : countFailure f s = .next t) (fs : List Failure) :
    countFailures (f :: fs) s = countFailures fs t := by
  rw [countFailures, h]

theorem countFailures_exhausted (fs : List Failure) {s : State} (hexh : s.rtStat.exh = true) :
    ∃ t, countFailures fs s = .next t ∧ t.rtStat.exh = true := by
  induction fs generalizing s with
  | nil => exact ⟨s, rfl, hexh⟩
  | cons f fs ih =>
    obtain ⟨t, hfirst, hexh'⟩ := countFailure_exhausted f hexh
    rw [countFailures_cons hfirst]
    exact ih hexh'

/-- The number of failures that exhaust the budget (R256, R257). -/
def budget (s : State) : Nat := max s.rtMax.toNat 1

theorem budget_lt (s : State) : budget s < 65536 := by
  have := s.rtMax.isLt
  rw [budget]
  omega

theorem cnt_succ_toNat {s : State} (h : s.rtStat.cnt.toNat < 65535) :
    (s.rtStat.cnt + 1).toNat = s.rtStat.cnt.toNat + 1 := by
  rw [BitVec.toNat_add]
  exact Nat.mod_eq_of_lt (by change s.rtStat.cnt.toNat + 1 < 65536; omega)

theorem add_one_add_ofNat (c : Half) (n : Nat) : c + 1 + BitVec.ofNat 16 n = c + BitVec.ofNat 16 (n + 1) := by
  rw [Nat.add_comm, BitVec.ofNat_add, BitVec.add_assoc]
  rfl

/-- Attempts within the budget: the count goes up by their number, and the last one exhausts the budget exactly when
they are all that was left of it. -/
theorem countFailures_within {s : State} {fs : List Failure} {last : Failure} (hexh : s.rtStat.exh = false)
    (hreal : ∀ f ∈ fs, failureReal s.rtTmo f) (hlast : fs.getLast? = some last)
    (hwithin : s.rtStat.cnt.toNat + fs.length ≤ budget s) :
    ∃ t, countFailures fs s = .next t
      ∧ t.rtStat = { cnt := s.rtStat.cnt + BitVec.ofNat 16 fs.length, armed := false
                     exh := decide (s.rtStat.cnt.toNat + fs.length = budget s) }
      ∧ t.result = if s.rtStat.cnt.toNat + fs.length = budget s then .maxRetriesExceeded
                   else failureReport last := by
  induction fs generalizing s with
  | nil => cases hlast
  | cons f fs ih =>
    rw [List.length_cons] at hwithin ⊢
    have hbudget := budget_lt s
    have hcnt := cnt_succ_toNat (s := s) (by omega)
    have hreaches : s.rtMax.toNat ≤ (s.rtStat.cnt + 1).toNat ↔ s.rtStat.cnt.toNat + 1 = budget s := by
      rw [hcnt]
      rw [budget] at hwithin ⊢
      omega
    obtain ⟨t, hfirst, hmax, htmo, hstat, hresult⟩ := countFailure_counts hexh (hreal f List.mem_cons_self)
    simp only [hreaches] at hstat hresult
    rw [countFailures_cons hfirst]
    cases fs with
    | nil =>
      cases hlast
      exact ⟨t, rfl, hstat, hresult⟩
    | cons g fs =>
      have hbudget' : budget t = budget s := by rw [budget, budget, hmax]
      have hcnt' : t.rtStat.cnt.toNat = s.rtStat.cnt.toNat + 1 := by rw [hstat, hcnt]
      have hsum : t.rtStat.cnt.toNat + (g :: fs).length = s.rtStat.cnt.toNat + ((g :: fs).length + 1) := by omega
      have hexh' : t.rtStat.exh = false := by
        rw [List.length_cons] at hwithin
        rw [hstat]
        exact decide_eq_false (by omega)
      obtain ⟨u, hrest, hstat', hresult'⟩ := ih hexh' (fun f' hf' => htmo ▸ hreal f' (List.mem_cons_of_mem f hf'))
        ((List.getLast?_cons_cons ..).symm.trans hlast) (by omega)
      rw [hsum, hbudget'] at hstat' hresult'
      refine ⟨u, hrest, hstat'.trans ?_, hresult'⟩
      rw [hstat, add_one_add_ofNat]

theorem exec_exhausted {i : Instr} (hi : i ∈ [Instr.rtArm, .rtOk, .rtFail, .rtPoll]) {s : State}
    (hexh : s.rtStat.exh = true) : exec i s = .next (ended .maxRetriesExceeded (encode i) s) := by
  simp only [List.mem_cons, List.not_mem_nil, or_false] at hi
  rcases hi with rfl | rfl | rfl | rfl
  · exact exec_rtArm_exhausted hexh
  · exact exec_rtOk_exhausted hexh
  · exact exec_rtFail_exhausted hexh
  · exact exec_rtPoll_exhausted hexh

/-- Settles O58: after RT.RST the count is 0 and each attempt adds one (`countFailures_within`); the exhausted budget
then refuses every other retry command (`exec_exhausted`). -/
theorem exactlyMaxAttempts : Obligations.ExactlyMaxAttempts := by
  intro s0 s fs last hreset hreal hlast hwithin
  have hstart : s.rtStat = { cnt := 0, armed := false, exh := false } := by
    rw [exec_rtRst] at hreset
    cases hreset
    rfl
  have hcount : s.rtStat.cnt.toNat + fs.length = fs.length := by
    rw [hstart]
    exact Nat.zero_add _
  obtain ⟨t, hrun, hstat, hresult⟩ := countFailures_within (congrArg RtStat.exh hstart) hreal hlast
    (hcount.trans_le hwithin)
  have hcnt : s.rtStat.cnt + BitVec.ofNat 16 fs.length = BitVec.ofNat 16 fs.length := by
    rw [hstart]
    exact BitVec.zero_add _
  rw [hcount, hcnt] at hstat
  rw [hcount] at hresult
  exact ⟨t, hrun, hstat, hresult, fun hall i n hi =>
    exec_exhausted hi ((congrArg RtStat.exh hstat).trans (decide_eq_true hall))⟩

/-! ## No silent stall (R259) -/

theorem countFailures_beyond {s : State} {fs : List Failure} (hexh : s.rtStat.exh = false)
    (hcnt : s.rtStat.cnt.toNat < 65535) (hreal : ∀ f ∈ fs, failureReal s.rtTmo f) (hne : fs ≠ [])
    (hbeyond : budget s ≤ s.rtStat.cnt.toNat + fs.length) :
    ∃ t, countFailures fs s = .next t ∧ t.rtStat.exh = true := by
  induction fs generalizing s with
  | nil => exact absurd rfl hne
  | cons f fs ih =>
    have hsucc := cnt_succ_toNat hcnt
    obtain ⟨t, hfirst, hmax, htmo, hstat, -⟩ := countFailure_counts hexh (hreal f List.mem_cons_self)
    rw [countFailures_cons hfirst]
    rcases Nat.lt_or_ge (s.rtStat.cnt + 1).toNat s.rtMax.toNat with hbelow | hreaches
    · have hcnt' : t.rtStat.cnt.toNat = s.rtStat.cnt.toNat + 1 := by rw [hstat, hsucc]
      have hbudget : budget t = budget s := by rw [budget, budget, hmax]
      have hword := s.rtMax.isLt
      rw [List.length_cons] at hbeyond
      have hleast : s.rtMax.toNat ≤ budget s := Nat.le_max_left ..
      refine ih ?_ (by omega) (fun f' hf' => htmo ▸ hreal f' (List.mem_cons_of_mem f hf')) ?_ (by omega)
      · rw [hstat]
        exact decide_eq_false (Nat.not_le.mpr hbelow)
      · rintro rfl
        rw [List.length_nil] at hbeyond
        omega
    · exact countFailures_exhausted fs (by rw [hstat]; exact decide_eq_true hreaches)

theorem pollOutcomes_early {s : State} (hexh : s.rtStat.exh = false) {m : Time} (hm : m.toNat < s.rtDl.toNat)
    (ts : List Time) : pollOutcomes (m :: ts) s = .ok :: pollOutcomes ts (endedOk { s with now := m }) := by
  rw [pollOutcomes, exec_rtPoll_waiting (s := { s with now := m }) hexh (.inr hm)]
  rfl

theorem pollOutcomes_late {s : State} (hexh : s.rtStat.exh = false) (harmed : s.rtStat.armed = true) {n : Time}
    (hn : s.rtDl.toNat ≤ n.toNat) (ts : List Time) :
    ∃ c rest, (c = .timeout ∨ c = .maxRetriesExceeded) ∧ pollOutcomes (n :: ts) s = c :: rest := by
  obtain ⟨t, hfirst, -, -, -, hresult⟩ := finishBump_counts .rtPoll .timeout (s := { s with now := n }) hexh
  rw [← exec_rtPoll_passed (s := { s with now := n }) hexh harmed hn] at hfirst
  refine ⟨t.result, pollOutcomes ts t, ?_, by rw [pollOutcomes, hfirst]⟩
  rw [hresult]
  split
  · exact .inr rfl
  · exact .inl rfl

/-- Polls before the deadline wait, and the first one at or after it does not. -/
theorem pollOutcomes_first_late {s : State} {before : List Time} {n : Time} (hexh : s.rtStat.exh = false)
    (harmed : s.rtStat.armed = true) (hbefore : ∀ m ∈ before, m.toNat < s.rtDl.toNat) (hn : s.rtDl.toNat ≤ n.toNat)
    (after : List Time) : ∃ c rest, (c = .timeout ∨ c = .maxRetriesExceeded)
      ∧ pollOutcomes (before ++ n :: after) s = List.replicate before.length .ok ++ c :: rest := by
  induction before generalizing s with
  | nil => exact pollOutcomes_late hexh harmed hn after
  | cons m before ih =>
    obtain ⟨hm, hbefore⟩ := List.forall_mem_cons.mp hbefore
    obtain ⟨c, rest, hc, houtcomes⟩ := ih (s := endedOk { s with now := m }) hexh harmed hbefore hn
    refine ⟨c, rest, hc, ?_⟩
    rw [List.cons_append, pollOutcomes_early hexh hm, houtcomes, List.length_cons, List.replicate_succ,
      List.cons_append]

/-- The polls up to the first one at or after the deadline. -/
theorem exists_first_late {ts : List Time} {deadline : Nat} (h : ∃ n ∈ ts, deadline ≤ n.toNat) :
    ∃ before n after, ts = before ++ n :: after ∧ (∀ m ∈ before, m.toNat < deadline) ∧ deadline ≤ n.toNat := by
  obtain ⟨n, hfirst⟩ : ∃ n, ts.find? (fun n => decide (deadline ≤ n.toNat)) = some n :=
    Option.isSome_iff_exists.mp (List.find?_isSome.mpr (by simpa using h))
  obtain ⟨hn, before, after, hts, hbefore⟩ := List.find?_eq_some_iff_append.mp hfirst
  exact ⟨before, n, after, hts, fun m hm => by simpa using hbefore m hm, of_decide_eq_true hn⟩

/-- Settles O59: the first poll at or after the deadline is counted (`pollOutcomes_first_late`), and failures beyond the
budget exhaust it (`countFailures_beyond`). -/
theorem noSilentStall : Obligations.NoSilentStall := by
  refine ⟨fun s ts hexh harmed hlate => ?_, fun s before after n hexh harmed hbefore hn =>
    pollOutcomes_first_late hexh harmed hbefore hn after, fun s fs hinv hreal hbeyond => ?_⟩
  · obtain ⟨before, n, after, rfl, hbefore, hn⟩ := exists_first_late hlate
    obtain ⟨c, rest, hc, houtcomes⟩ := pollOutcomes_first_late hexh harmed hbefore hn after
    rw [houtcomes]
    exact ⟨c, by simp, by rcases hc with rfl | rfl <;> decide⟩
  · obtain ⟨-, -, -, -, -, -, -, -, -, -, hroom⟩ := hinv
    cases hexh : s.rtStat.exh with
    | true => exact countFailures_exhausted fs hexh
    | false =>
      refine countFailures_beyond hexh (hroom hexh) hreal ?_ (hbeyond.trans (Nat.le_add_left ..))
      rintro rfl
      exact absurd (Nat.le_max_right s.rtMax.toNat 1) (Nat.not_le.mpr (Nat.lt_one_iff.mpr (Nat.le_zero.mp hbeyond)))

end Sys2Proof.Machine
end
